-- ==== Sys2Proof/Word.lean ====
section
/-! DEFINITION. The word types of the NB16: the bytes of the station lines, and the counts that the
manual gives a width in bits and lets wrap. Quantities that only have a range are `Nat`. -/

namespace Sys2Proof

/-- One byte of a station line. -/
abbrev Byte := BitVec 8

/-- A 16-bit wrapping count, or a 16-bit check value. -/
abbrev Count16 := BitVec 16

/-- A 32-bit wrapping count, or the 32-bit plant clock. -/
abbrev Count32 := BitVec 32

end Sys2Proof
end

