-- ==== Sys2Proof/Syntax.lean ====
section
/-! DEFINITION. The commands of the NB16: one constructor for each row of `spec/opcode_table.json`.

A request row names the port that takes the frame at the head of its inbound queue (R154); what the
request asks stands in that frame. -/

namespace Sys2Proof

/-- The four station ports. -/
inductive Port where
  | p0 | p1 | p2 | p3
deriving DecidableEq, Repr, Inhabited

/-- The two wash slots. -/
inductive SlotId where
  | a | b
deriving DecidableEq, Repr, Inhabited

/-- The three analog channels. -/
inductive Channel where
  | tank | flow | basin
deriving DecidableEq, Repr, Inhabited

/-- A filter number, 0 to 15. -/
abbrev FilterNo := Fin 16

/-- The commands and events of the part, in the order of the table. -/
inductive Instr where
  /-- Power-on reset is asserted (R163). -/
  | powerOnReset
  /-- The RESET line is asserted (R163). -/
  | resetLine
  /-- The reset ends and the start-up sequence runs, reading the two straps (R163). -/
  | startUp (baud1 baud0 : Bool)
  /-- Bytes arrive on a port's line, without a gap, up to the end of a frame (R152, R153). -/
  | frameArrival (p : Port) (bytes : List Byte)
  /-- The last byte of the frame at the head of a port's outbound queue has been sent (R158). -/
  | frameDeparture (p : Port)
  /-- A port's silence timer expires (R157). -/
  | silenceTimerExpiry (p : Port)
  /-- A port takes a frame whose kind is not in the catalogue (R154). -/
  | unknownRequest (p : Port)
  | attach (p : Port)
  | detach (p : Port)
  | ping (p : Port)
  | report (p : Port)
  | filterMode (p : Port)
  | washRequest (p : Port)
  | washWithdraw (p : Port)
  | washAbort (p : Port)
  | stepReady (p : Port)
  | stepDone (p : Port)
  | stepFault (p : Port)
  | readFilter (p : Port)
  | readQueue (p : Port)
  | readSlots (p : Port)
  | readMonitor (p : Port)
  | readJournal (p : Port)
  | readPage (p : Port)
  | readStatus (p : Port)
  | setClass (p : Port)
  | setPause (p : Port)
  | clockSet (p : Port)
  | clearStatus (p : Port)
  | peakReset (p : Port)
  | editOpen (p : Port)
  | editWrite (p : Port)
  | editClose (p : Port)
  | commit (p : Port)
  /-- The commit timer expires (R141). -/
  | commitCompletion
  /-- A slot's owed STEP_SET enters the covering port's outbound queue (R69). -/
  | stepSet (i : SlotId)
  /-- A slot's owed STEP_RUN enters the covering port's outbound queue (R69). -/
  | stepRun (i : SlotId)
  /-- A filter's owed WASH_END enters the covering port's outbound queue (R88). -/
  | washEnd (f : FilterNo)
  /-- The owed COMMIT_DONE enters its port's outbound queue (R141). -/
  | commitDone
  /-- The seconds count wraps and the plant clock advances (R161). -/
  | minuteEvent
  /-- A channel takes a converter reading (R120). -/
  | channelSample (c : Channel) (reading : BitVec 12)
  /-- A channel takes the good reading that completes its window (R122). -/
  | windowCompletion (c : Channel) (reading : BitVec 12)
  /-- An examination finds every condition met and the candidate is admitted (R57). -/
  | admission
  | spacingTimerExpiry
  | valveTimerExpiry (i : SlotId)
  | supplyWaitExpiry (i : SlotId)
  | stepTimerExpiry (i : SlotId)
  | clearHoldExpiry (i : SlotId)
  | rampTimerExpiry (i : SlotId)
  | shortfallTimerExpiry (i : SlotId)
  | resettleTimerExpiry (i : SlotId)
  | haltTimerExpiry (i : SlotId)
  /-- A waiting request is satisfied whole (R95). -/
  | grant (i : SlotId)
  /-- Bytes arrive; then, where `gap` holds a byte, more than 5 ms pass before that byte (R153). -/
  | discardedFrame (p : Port) (bytes : List Byte) (gap : Option Byte)
deriving DecidableEq, Repr, Inhabited

end Sys2Proof
end

