-- ==== Sys2Proof/Decode.lean ====
section
/-! DEFINITION. Decoding of table words. The rows of `spec/opcode_table.json` give no bits: the part
takes commands and events, not instruction words, so no word spells a command. The frames of the
station lines are decoded in `Machine/Link.lean` and `Machine/Operands.lean`. -/

namespace Sys2Proof

/-- The command that a table word spells: none, since no row of the table gives bits. -/
def decodeTableWord (_nbits _w : Nat) : Option Instr := none

end Sys2Proof
end

