-- ==== Sys2Proof/Machine/Pages.lean ====
section
/-! DEFINITION. The contents of the nine stored pages (Tables 4-1 and 8-3) and their factory defaults
(R134). -/

namespace Sys2Proof.Machine

/-- What a wash step does (Table 4-1). -/
inductive StepKind where
  | drain | air | airWater | water | settle | waste
deriving DecidableEq, Repr, Inhabited

/-- One programme step record (R64). -/
structure StepRec where
  kind : StepKind
  duration : Nat
  rate : Nat
  repeats : Nat
  ripenLimit : Nat
  clearHold : Nat
deriving DecidableEq, Repr, Inhabited

/-- The step record that EDIT_OPEN gives a staged position beyond the step count (R135). -/
def StepRec.blank : StepRec := ⟨.drain, 10, 0, 1, 0, 0⟩

/-- The plant page fields of one filter (Table 8-3). -/
structure FilterCfg where
  present : Bool
  area : Nat
  programme : Fin 8
  headlossLimit : Nat
  turbidityLimit : Nat
  runLimit : Nat
deriving DecidableEq, Repr, Inhabited

/-- The plant page fields of one monitor channel (Table 7-3). -/
structure ChannelCfg where
  exponent : Nat
  zero : Nat
  span : Nat
deriving DecidableEq, Repr, Inhabited

/-- What a slot does at a shortfall (R108). -/
inductive ShortfallPolicy where
  | retryOnce | latch
deriving DecidableEq, Repr, Inhabited

/-- How an alert line follows its mask (R149). -/
inductive AlertMode where
  | latched | live
deriving DecidableEq, Repr, Inhabited

/-- The ten status flags, in the order of Table 9-1. -/
inductive Flag where
  | washAborted | ripenLong | supplyShort | tankLow | basinFull | signalFault | portLapsed
  | rotationStalled | forcedWaiting | pageInvalid
deriving DecidableEq, Repr, Inhabited

/-- A set of status flags; bit 0 is WASH_ABORTED and the rest follow Table 9-1 (R159). -/
abbrev FlagSet := BitVec 10

/-- A flag's bit in a set of flags (R159). -/
def Flag.bit : Flag → Nat
  | .washAborted => 0 | .ripenLong => 1 | .supplyShort => 2 | .tankLow => 3 | .basinFull => 4
  | .signalFault => 5 | .portLapsed => 6 | .rotationStalled => 7 | .forcedWaiting => 8
  | .pageInvalid => 9

/-- The set that holds one flag. -/
def Flag.only (x : Flag) : FlagSet := BitVec.twoPow 10 x.bit

/-- The plant page (Table 8-3). -/
structure PlantPage where
  filters : Vector FilterCfg 16
  thresholdNormal : Nat
  thresholdElevated : Nat
  thresholdFlood : Nat
  staleLimit : Nat
  floor : Nat
  maxConcurrent : Nat
  startSpacing : Nat
  pumpCapacity : Nat
  tankArea : Nat
  reserveLevel : Nat
  basinArea : Nat
  basinMaximum : Nat
  stallLimit : Nat
  valveTravel : Nat
  rampStart : Nat
  rampInterval : Nat
  lowFlow : Nat
  flowGrace : Nat
  shortfallPolicy : ShortfallPolicy
  supplyWaitLimit : Nat
  haltLimit : Nat
  tankCfg : ChannelCfg
  flowCfg : ChannelCfg
  basinCfg : ChannelCfg
  tankLowLow : Nat
  refillOn : Nat
  refillOff : Nat
  lockMask : BitVec 8
  alert0Mask : FlagSet
  alert0Mode : AlertMode
  alert1Mask : FlagSet
  alert1Mode : AlertMode
deriving DecidableEq, Repr, Inhabited

/-- The settings of a channel on a plant page. -/
def PlantPage.channelCfg (q : PlantPage) : Channel → ChannelCfg
  | .tank => q.tankCfg
  | .flow => q.flowCfg
  | .basin => q.basinCfg

/-- The factory default of a filter's fields: not present (R134, Table 8-3). -/
def FilterCfg.factory : FilterCfg := ⟨false, 800, 0, 2200, 200, 4320⟩

/-- The factory default plant page (R134, last column of Table 8-3). -/
def PlantPage.factory : PlantPage where
  filters := Vector.replicate 16 FilterCfg.factory
  thresholdNormal := 230
  thresholdElevated := 205
  thresholdFlood := 179
  staleLimit := 10
  floor := 8
  maxConcurrent := 2
  startSpacing := 600
  pumpCapacity := 2000
  tankArea := 4000
  reserveLevel := 600
  basinArea := 6000
  basinMaximum := 2500
  stallLimit := 60
  valveTravel := 120
  rampStart := 4
  rampInterval := 2
  lowFlow := 80
  flowGrace := 15
  shortfallPolicy := .retryOnce
  supplyWaitLimit := 900
  haltLimit := 300
  tankCfg := ⟨4, 0, 5000⟩
  flowCfg := ⟨4, 0, 2500⟩
  basinCfg := ⟨4, 0, 3000⟩
  tankLowLow := 300
  refillOn := 3500
  refillOff := 4200
  lockMask := 0
  alert0Mask := BitVec.allOnes 10
  alert0Mode := .latched
  alert1Mask := Flag.only .tankLow ||| Flag.only .basinFull ||| Flag.only .signalFault
  alert1Mode := .live

/-- The factory default programme (R134, Table 8-2). -/
def factoryProgramme : List StepRec :=
  [⟨.drain, 300, 0, 1, 0, 0⟩, ⟨.air, 180, 0, 1, 0, 0⟩, ⟨.airWater, 240, 150, 1, 0, 0⟩,
   ⟨.water, 420, 550, 1, 0, 0⟩, ⟨.settle, 60, 0, 1, 0, 0⟩, ⟨.waste, 900, 0, 1, 150, 120⟩]

/-- The filter numbers in ascending order, the order in which the Filter Table takes them (R22). -/
def allFilters : List FilterNo := [0, 1, 2, 3, 4, 5, 6, 7, 8, 9, 10, 11, 12, 13, 14, 15]

/-- The programme page numbers. -/
def allPages : List (Fin 8) := [0, 1, 2, 3, 4, 5, 6, 7]

/-- The ports in ascending order. -/
def allPorts : List Port := [.p0, .p1, .p2, .p3]

/-- A converter reading that is a good sample: 1 to 4094 (R120). -/
def goodReading (r : BitVec 12) : Bool := r != 0 && r != 4095

end Sys2Proof.Machine
end

