-- ==== Sys2Proof/Config.lean ====
section
/-! DEFINITION. What the manual leaves open: free values. None has a body, so no proof can rest on
what it is. -/

namespace Sys2Proof.Config

/-- The outcome of the n-th choice that the manual leaves open between two or more orders (log 4). -/
opaque freeChoice : Nat → Nat

/-- The content of a programme page whose commit a reset cut short: "whatever part of the new content
had been written" (R143, log 10). -/
opaque tornProgramme : Nat → List Machine.StepRec

/-- The content of the plant page whose commit a reset cut short (R143, log 10). -/
opaque tornPlant : Nat → Machine.PlantPage

/-- The stored check value of a page whose commit a reset cut short (R143, log 10). -/
opaque tornCheck : Nat → BitVec 16

end Sys2Proof.Config
end

