-- ==== Sys2Proof/Machine/Encoding.lean ====
section
/-! DEFINITION. Bytes: numbers in big-endian order, flag bits packed before the other fields of a
record (R159), the CRC-16 of frames and pages (R132, R152), and the stored bytes of the pages. -/

namespace Sys2Proof.Machine

/-- A one-byte number. -/
def u8 (n : Nat) : List Byte := [BitVec.ofNat 8 n]

/-- A two-byte number, most significant byte first (R152). -/
def u16 (n : Nat) : List Byte := [BitVec.ofNat 8 (n / 256), BitVec.ofNat 8 n]

/-- A four-byte number, most significant byte first (R152). -/
def u32 (n : Nat) : List Byte :=
  [BitVec.ofNat 8 (n / 16777216), BitVec.ofNat 8 (n / 65536), BitVec.ofNat 8 (n / 256),
   BitVec.ofNat 8 n]

/-- One shift of the check register, polynomial 0x1021, no reflection (R152). -/
def crcShift (c : BitVec 16) : BitVec 16 :=
  if c.msb then (c <<< 1) ^^^ 0x1021#16 else c <<< 1

/-- The check register after one more byte (R152). -/
def crcByte (c : BitVec 16) (b : Byte) : BitVec 16 :=
  let c0 := c ^^^ (b.zeroExtend 16 <<< 8)
  crcShift (crcShift (crcShift (crcShift (crcShift (crcShift (crcShift (crcShift c0)))))))

/-- The CRC-16 of a list of bytes: polynomial 0x1021, initial value 0xFFFF (R132, R152). -/
def crc16 (bs : List Byte) : BitVec 16 := bs.foldl crcByte 0xFFFF#16

/-- A field of a record in an answer: a yes/no field, a number that is always present, or an optional
number of `width` bytes with its presence bit (R159). -/
inductive Field where
  | flag (b : Bool)
  | num (bytes : List Byte)
  | opt (width : Nat) (value : Option (List Byte))
deriving DecidableEq, Repr

/-- The bits a field puts into the flag bytes (R159). -/
def Field.bits : Field → List Bool
  | .flag b => [b]
  | .num _ => []
  | .opt _ v => [v.isSome]

/-- The bytes a field puts after the flag bytes; an absent field is sent as 0 (R159). -/
def Field.body : Field → List Byte
  | .flag _ => []
  | .num bs => bs
  | .opt w v => v.getD (List.replicate w 0)

/-- The value of a list of bits, the first at bit 0. -/
def bitsValue : List Bool → Nat
  | [] => 0
  | b :: bs => (if b then 1 else 0) + 2 * bitsValue bs

/-- Bits packed into bytes in order from bit 0 (R159), for up to 24 bits. -/
def packBits (bs : List Bool) : List Byte :=
  if bs.length = 0 then []
  else if bs.length ≤ 8 then u8 (bitsValue bs)
  else if bs.length ≤ 16 then u8 (bitsValue (bs.take 8)) ++ u8 (bitsValue (bs.drop 8))
  else u8 (bitsValue (bs.take 8)) ++ u8 (bitsValue ((bs.drop 8).take 8)) ++
    u8 (bitsValue (bs.drop 16))

/-- A record: its flag bytes, then its other fields in listed order (R159). -/
def encodeRecord (fs : List Field) : List Byte :=
  packBits (fs.flatMap Field.bits) ++ fs.flatMap Field.body

/-- A step kind's position in its list (R159). -/
def StepKind.code : StepKind → Nat
  | .drain => 0 | .air => 1 | .airWater => 2 | .water => 3 | .settle => 4 | .waste => 5

/-- The kind at a position of the list, if there is one. -/
def StepKind.ofCode : Nat → Option StepKind
  | 0 => some .drain | 1 => some .air | 2 => some .airWater | 3 => some .water
  | 4 => some .settle | 5 => some .waste | _ => none

def ShortfallPolicy.code : ShortfallPolicy → Nat
  | .retryOnce => 0 | .latch => 1

def AlertMode.code : AlertMode → Nat
  | .latched => 0 | .live => 1

/-- A slot's number on the line: slot A is 0 (R159). -/
def slotCode : SlotId → Nat
  | .a => 0 | .b => 1

/-- A port's number on the line. -/
def portCode : Port → Nat
  | .p0 => 0 | .p1 => 1 | .p2 => 2 | .p3 => 3

/-- The bytes of a step record (Table 4-1; R159). -/
def StepRec.bytes (x : StepRec) : List Byte :=
  u8 x.kind.code ++ u16 x.duration ++ u16 x.rate ++ u8 x.repeats ++ u16 x.ripenLimit ++
    u16 x.clearHold

/-- The bytes of a filter's plant page fields (Table 8-3; R159). -/
def FilterCfg.bytes (x : FilterCfg) : List Byte :=
  encodeRecord [.flag x.present, .num (u16 x.area), .num (u8 x.programme.val),
    .num (u16 x.headlossLimit), .num (u16 x.turbidityLimit), .num (u16 x.runLimit)]

/-- Part 4 of a plant page: the rows of Table 8-3 from the thresholds to the halt limit (R160). -/
def PlantPage.part4 (q : PlantPage) : List Byte :=
  u8 q.thresholdNormal ++ u8 q.thresholdElevated ++ u8 q.thresholdFlood ++ u8 q.staleLimit ++
  u8 q.floor ++ u8 q.maxConcurrent ++ u16 q.startSpacing ++ u16 q.pumpCapacity ++
  u16 q.tankArea ++ u16 q.reserveLevel ++ u16 q.basinArea ++ u16 q.basinMaximum ++
  u8 q.stallLimit ++ u16 q.valveTravel ++ u8 q.rampStart ++ u8 q.rampInterval ++ u8 q.lowFlow ++
  u8 q.flowGrace ++ u8 q.shortfallPolicy.code ++ u16 q.supplyWaitLimit ++ u16 q.haltLimit

/-- Part 5 of a plant page: the rows of Table 8-3 from the averaging exponents on (R160). The lock mask is one
byte, with bit g for page g (log 32). -/
def PlantPage.part5 (q : PlantPage) : List Byte :=
  u8 q.tankCfg.exponent ++ u8 q.flowCfg.exponent ++ u8 q.basinCfg.exponent ++
  u16 q.tankCfg.zero ++ u16 q.flowCfg.zero ++ u16 q.basinCfg.zero ++
  u16 q.tankCfg.span ++ u16 q.flowCfg.span ++ u16 q.basinCfg.span ++
  u16 q.tankLowLow ++ u16 q.refillOn ++ u16 q.refillOff ++ u8 q.lockMask.toNat ++
  u16 q.alert0Mask.toNat ++ u8 q.alert0Mode.code ++ u16 q.alert1Mask.toNat ++
  u8 q.alert1Mode.code

/-- The stored bytes of the plant page (DEDUCED: Table 8-3 in order, encoded as R159 encodes fields;
log 9). -/
def PlantPage.stored (q : PlantPage) : List Byte :=
  q.filters.toList.flatMap FilterCfg.bytes ++ q.part4 ++ q.part5

/-- The stored bytes of a programme page: the step count, then that many step records (R132;
DEDUCED encoding, log 9). -/
def programmeStored (steps : List StepRec) : List Byte :=
  u8 steps.length ++ steps.flatMap StepRec.bytes

/-- The check value of a programme page's content (R132). -/
def programmeCheck (steps : List StepRec) : BitVec 16 := crc16 (programmeStored steps)

/-- The check value of the plant page's content (R132). -/
def plantCheck (q : PlantPage) : BitVec 16 := crc16 q.stored

end Sys2Proof.Machine
end

