-- ==== Sys2Proof/Machine/Blocks.lean ====
section
/-! DEFINITION. What each block of the part holds: the records, entries and contexts of the manual's
state tables. -/

namespace Sys2Proof.Machine

/-- A timer: stopped, or running with its seconds remaining. -/
abbrev Timer := Option Nat

/-! ### Station Link (R151, R152) -/

/-- The role of an attachment (R151). -/
inductive Role where
  | gallery | supervisor
deriving DecidableEq, Repr, Inhabited

/-- The bounds of a GALLERY attachment, first to last filter (R151). -/
structure Bounds where
  first : FilterNo
  last : FilterNo
deriving DecidableEq, Repr, Inhabited

/-- A frame without its start byte, length byte and check bytes, which `Frame.bytes` adds (R152). -/
structure Frame where
  kind : Byte
  tag : Byte
  payload : List Byte
deriving DecidableEq, Repr, Inhabited

/-- A port's receiver: hunting, or the bytes after the start byte gathered so far (R153). -/
inductive Receiver where
  | hunting
  | gathering (bytes : List Byte)
deriving DecidableEq, Repr, Inhabited

/-- A port record (Table 10-1). A port is ATTACHED exactly when it has a role. -/
structure PortRec where
  role : Option Role
  bounds : Option Bounds
  silenceLimit : Nat
  silenceTimer : Timer
  receiver : Receiver
  inbound : List Frame
  outbound : List Frame
  errorCount : Count16
  dropCount : Count16
deriving DecidableEq, Repr, Inhabited

/-- The four port records. -/
structure Ports where
  p0 : PortRec
  p1 : PortRec
  p2 : PortRec
  p3 : PortRec
deriving DecidableEq, Repr, Inhabited

/-! ### Filter Table (R1) -/

/-- The condition of a filter (Table 1-1). -/
inductive FilterState where
  | absent | standby | service | wash
deriving DecidableEq, Repr, Inhabited

/-- What a filter asks of the Wash Queue (Table 1-1, R21). -/
inductive Standing where
  | out | below | hold | due | limit
deriving DecidableEq, Repr, Inhabited

/-- The outcome of an ended wash (Table 1-1). -/
inductive WashOutcome where
  | complete | completeRipenLong | aborted
deriving DecidableEq, Repr, Inhabited

/-- The abort cause of an ended wash (Table 1-1). -/
inductive Cause where
  | noCause | requested | valveTimeout | valveFault | drainTimeout | supplyShort | supplyWait
  | tankLow | portLapsed
deriving DecidableEq, Repr, Inhabited

/-- The raw-water class (R20). -/
inductive RawClass where
  | normal | elevated | flood
deriving DecidableEq, Repr, Inhabited

/-- A filter record (Table 1-1). -/
structure FilterRec where
  state : FilterState
  area : Nat
  programme : Fin 8
  headlossLimit : Nat
  turbidityLimit : Nat
  runLimit : Nat
  headloss : Option Nat
  headlossClamped : Bool
  turbidity : Option Nat
  turbidityClamped : Bool
  reportAge : Nat
  stale : Bool
  runMinutes : Nat
  headlossFraction : Nat
  turbidityFraction : Nat
  runFraction : Nat
  urgency : Nat
  standing : Standing
  deferralMark : Option Nat
  washFailed : Bool
  historyUnknown : Bool
  washCount : Count16
  abortCount : Nat
  lastOutcome : Option WashOutcome
  lastCause : Cause
  lastSequence : Option Count16
  endOwed : Bool
deriving DecidableEq, Repr, Inhabited

/-- The Filter Table: sixteen records, the service count (R3) and the raw-water class (R20). -/
structure FilterTable where
  records : Vector FilterRec 16
  serviceCount : Nat
  rawClass : RawClass
deriving DecidableEq, Repr, Inhabited

/-! ### Wash Queue (R28, R30, R39) -/

/-- The class of a queue entry (Table 2-1). -/
inductive EntryClass where
  | forced | requested | due
deriving DecidableEq, Repr, Inhabited

/-- Why an entry is FORCED (Table 2-1). -/
inductive ForcedReason where
  | limit | supervisor
deriving DecidableEq, Repr, Inhabited

/-- A queue entry (Table 2-1). `order` is the model's own: the number of the join, unwrapped, so that
the order of joining outlives a wrap of the tickets (R29, log 15). -/
structure Entry where
  filter : FilterNo
  cls : EntryClass
  reason : Option ForcedReason
  urgency : Nat
  ticket : Count32
  joinMinute : Count32
  requestedBy : Option Port
  order : Nat
deriving DecidableEq, Repr, Inhabited

/-- The queue's view of a filter: the last standing notice (R30). -/
structure View where
  standing : Standing
  urgency : Nat
deriving DecidableEq, Repr, Inhabited

/-- The status of a programme page at the queue (R39). -/
inductive PageStatus where
  | usable | invalid | committing
deriving DecidableEq, Repr, Inhabited

/-- The Wash Queue (R28, R30, R39, R40). `joins` is the model's own: the unwrapped join counter
(log 15). -/
structure WashQueue where
  entries : List Entry
  joinCounter : Count32
  joins : Nat
  views : Vector View 16
  covered : Vector Bool 16
  pageStatus : Vector PageStatus 8
  plantCommitting : Bool
  serviceCount : Nat
  floor : Nat
  candidate : Option FilterNo
deriving DecidableEq, Repr, Inhabited

/-! ### Admission Unit (R44) -/

/-- Why the candidate is not admitted (Table 3-1). -/
inductive WaitReason where
  | noWait | slot | concurrency | paused | spacing | monitor | tank | basin
deriving DecidableEq, Repr, Inhabited

/-- What the Admission Unit knows of one monitor channel (R51). -/
structure ChannelView where
  fault : Bool
  fresh : Bool
deriving DecidableEq, Repr, Inhabited

/-- The Admission Unit (Table 3-1). `stallHolds` is the stall condition as last evaluated, which R61
compares with the new one. -/
structure AdmissionUnit where
  candidate : Option FilterNo
  waitReason : WaitReason
  paused : Bool
  spacing : Timer
  activeCount : Nat
  admissionCounter : Count32
  tankLevel : Option Nat
  basinLevel : Option Nat
  primed : Bool
  tankView : ChannelView
  flowView : ChannelView
  basinView : ChannelView
  lastNeeded : Option Nat
  stallCount : Nat
  stallHolds : Bool
  rotationStalled : Bool
  forcedWaiting : Bool
deriving DecidableEq, Repr, Inhabited

/-! ### Wash slots (R66) -/

/-- The state of a wash slot (R67). -/
inductive SlotState where
  | idle | setup | waitSupply | run | resettle | halt
deriving DecidableEq, Repr, Inhabited

/-- The clear-hold timer (Table 4-3, R81). -/
inductive ClearHold where
  | stopped
  | running (remaining : Nat)
  | frozen (remaining : Nat)
deriving DecidableEq, Repr, Inhabited

/-- A slot notice (R69). -/
inductive SlotNotice where
  | stepSet | stepRun
deriving DecidableEq, Repr, Inhabited

/-- A wash slot context (Table 4-3). The step count is the length of the programme copy. -/
structure Slot where
  state : SlotState
  filter : Option FilterNo
  page : Option (Fin 8)
  ticket : Count32
  programme : List StepRec
  areaCopy : Nat
  pumpCopy : Nat
  demands : List Nat
  reservation : Nat
  delivered : Nat
  stepIndex : Nat
  repeatsLeft : Nat
  stepElapsed : Nat
  rampK : Nat
  retryUsed : Bool
  valveTimer : Timer
  stepTimer : Timer
  supplyWait : Timer
  rampTimer : Timer
  shortfall : Timer
  resettle : Timer
  haltTimer : Timer
  clearHold : ClearHold
  filterStale : Bool
  peakWaste : Option Nat
  startMinute : Count32
  rateClamped : Bool
  flowUnsupervised : Bool
  ripenLong : Bool
  historyUnknown : Bool
  noticeOwed : Option SlotNotice
deriving DecidableEq, Repr, Inhabited

/-! ### Supply Arbiter (R90) -/

/-- The set of grants a request asks for (Table 5-1). -/
inductive SupplySet where
  | air | water | airWater
deriving DecidableEq, Repr, Inhabited

/-- A request in the arbiter's list (R91). -/
structure Request where
  slot : SlotId
  ticket : Count32
  set : SupplySet
deriving DecidableEq, Repr, Inhabited

/-- The Supply Arbiter (Table 5-1) with its two outputs: WATER_DEMAND carries `waterDemand` (R99) and
BLOWER_RUN is `blowerRun` (R98). -/
structure Arbiter where
  airHolder : Option SlotId
  waterHolder : Option SlotId
  requests : List Request
  tankLow : Bool
  basinFull : Bool
  tankFault : Bool
  flowFault : Bool
  waterDemand : Nat
  blowerRun : Bool
deriving DecidableEq, Repr, Inhabited

/-! ### Supply Monitor (R119) -/

/-- A channel record (Table 7-1). -/
structure ChannelRec where
  fault : Bool
  lastRaw : Option (BitVec 12)
  lastScaled : Option Nat
  lastClamped : Bool
  windowCount : Nat
  windowSum : Nat
  average : Option Nat
  faultEntries : Count16
  extreme : Option Nat
deriving DecidableEq, Repr, Inhabited

/-- The Supply Monitor (Tables 7-1 and 7-2). -/
structure Monitor where
  tank : ChannelRec
  flow : ChannelRec
  basin : ChannelRec
  primed : Bool
  tankLow : Bool
  basinFull : Bool
  signalFault : Bool
  refill : Bool
  waterView : Option SlotId
  unattributed : Count32
  totalLitres : Count32
  totalRemainder : Nat
  rollover : Count16
  sampleCount : Count32
deriving DecidableEq, Repr, Inhabited

/-! ### Page Store (R132) -/

/-- A stored programme page (Table 8-1). -/
structure ProgrammePage where
  steps : List StepRec
  check : BitVec 16
  marker : Bool
  valid : Bool
deriving DecidableEq, Repr, Inhabited

/-- The stored plant page (Table 8-1). -/
structure StoredPlant where
  content : PlantPage
  check : BitVec 16
  marker : Bool
  valid : Bool
deriving DecidableEq, Repr, Inhabited

/-- The staging page: the page it stands for and its content; a programme is staged with a step count
and twelve positions (R135, R136). -/
inductive Staged where
  | programme (page : Fin 8) (count : Nat) (steps : List StepRec)
  | plant (content : PlantPage)
deriving DecidableEq, Repr, Inhabited

/-- What a commit in progress writes: the page and the content taken over from the staging page
(R140). -/
inductive CommitTarget where
  | programme (page : Fin 8) (steps : List StepRec)
  | plant (content : PlantPage)
deriving DecidableEq, Repr, Inhabited

/-- A page named by its number, 0 to 7 for the programme pages and 8 for the plant page. -/
inductive PageId where
  | programme (page : Fin 8)
  | plant
deriving DecidableEq, Repr, Inhabited

/-- The Page Store (Table 8-1). The commit timer runs exactly while `commit` holds a commit, and the
result of an owed COMMIT_DONE is always OK (R141). -/
structure PageStore where
  programmes : Vector ProgrammePage 8
  plant : StoredPlant
  latch : Option Port
  staging : Option Staged
  commit : Option (CommitTarget × Port)
  owedDone : Option (Port × PageId)
  pageInvalid : Bool
deriving DecidableEq, Repr, Inhabited

/-! ### Wash Journal (R145) -/

/-- A wash record (Table 4-6) with its sequence number (R145). -/
structure JournalRec where
  sequence : Count16
  filter : FilterNo
  page : Option (Fin 8)
  startMinute : Count32
  endMinute : Count32
  outcome : WashOutcome
  cause : Cause
  stepIndex : Nat
  reservation : Nat
  deliveredLitres : Nat
  retriesUsed : Nat
  peakWaste : Option Nat
  rateClamped : Bool
  flowUnsupervised : Bool
  ripenLong : Bool
  historyUnknown : Bool
deriving DecidableEq, Repr, Inhabited

/-- The Wash Journal: the records held, oldest first, and the next sequence number (R145). -/
structure Journal where
  records : List JournalRec
  nextSequence : Count16
deriving DecidableEq, Repr, Inhabited

/-! ### Status and Alert Unit (R147, R149) -/

/-- The latched and live copies of the flags and the two alert lines. A flag without a live copy has
its bit of `live` clear; six flags have one by Table 9-1, where R147 says five (log 27). -/
structure Status where
  latched : FlagSet
  live : FlagSet
  alert0 : Bool
  alert1 : Bool
deriving DecidableEq, Repr, Inhabited

/-! ### Pins (R163) -/

/-- The line rate of the four ports (Table 11-2). -/
inductive LineRate where
  | baud19200 | baud38400 | baud57600 | baud115200
deriving DecidableEq, Repr, Inhabited

end Sys2Proof.Machine
end

