-- ==== Sys2Proof/Machine/Flags.lean ====
section
/-! DEFINITION. The status flags and alert lines as operations on the Status and Alert Unit alone
(R147 to R149). `q` is always the plant page in force, which holds the masks and modes. -/

namespace Sys2Proof.Machine

/-- Whether a line with this mask and mode is active (R149). -/
def alertLine (mask : FlagSet) (mode : AlertMode) (u : Status) : Bool :=
  match mode with
  | .latched => mask &&& u.latched != 0
  | .live => mask &&& u.live != 0

/-- The evaluation of both alert lines (R149). -/
def Status.evaluate (q : PlantPage) (u : Status) : Status :=
  { u with
    alert0 := alertLine q.alert0Mask q.alert0Mode u
    alert1 := alertLine q.alert1Mask q.alert1Mode u }

/-- An event flag's event sets the latched copy (R147). -/
def Status.latch (q : PlantPage) (x : Flag) (u : Status) : Status :=
  ({ u with latched := u.latched ||| x.only }).evaluate q

/-- A live condition takes a value: true sets the live and the latched copy, false clears the live copy
and leaves the latched one (R147). -/
def Status.setLive (q : PlantPage) (x : Flag) (value : Bool) (u : Status) : Status :=
  (if value then { u with latched := u.latched ||| x.only, live := u.live ||| x.only }
   else { u with live := u.live &&& ~~~x.only }).evaluate q

/-- CLEAR_STATUS: the named latched copies are cleared and set again at once where the live copy is
true (R148). -/
def Status.clear (q : PlantPage) (named : FlagSet) (u : Status) : Status :=
  ({ u with latched := (u.latched &&& ~~~named) ||| (named &&& u.live) }).evaluate q

end Sys2Proof.Machine
end

