-- ==== Sys2Proof/Machine/ResetValues.lean ====
section
/-! DEFINITION. The value each block takes after power-on reset and after assertion of the RESET line,
the delivered content of the Page Store, and its revalidation (R133). -/

namespace Sys2Proof.Machine

/-- Table 10-1, last column (R151). -/
def PortRec.atReset : PortRec where
  role := none
  bounds := none
  silenceLimit := 0
  silenceTimer := none
  receiver := .hunting
  inbound := []
  outbound := []
  errorCount := 0
  dropCount := 0

/-- Table 1-2 for one filter, from its fields on the plant page in force (R2). -/
def FilterRec.atReset (c : FilterCfg) : FilterRec where
  state := if c.present then .standby else .absent
  area := c.area
  programme := c.programme
  headlossLimit := c.headlossLimit
  turbidityLimit := c.turbidityLimit
  runLimit := c.runLimit
  headloss := none
  headlossClamped := false
  turbidity := none
  turbidityClamped := false
  reportAge := 0
  stale := false
  runMinutes := 0
  headlossFraction := 0
  turbidityFraction := 0
  runFraction := 0
  urgency := 0
  standing := if c.present then .below else .out
  deferralMark := none
  washFailed := false
  historyUnknown := true
  washCount := 0
  abortCount := 0
  lastOutcome := none
  lastCause := .noCause
  lastSequence := none
  endOwed := false

/-- The Filter Table after reset (R2, R20). -/
def FilterTable.atReset (q : PlantPage) : FilterTable where
  records := q.filters.map FilterRec.atReset
  serviceCount := 0
  rawClass := .normal

/-- The status the queue gives a programme page at the revalidation (R133). -/
def ProgrammePage.status (g : ProgrammePage) : PageStatus := if g.valid then .usable else .invalid

/-- The Wash Queue after reset (R30, R39, R43). -/
def WashQueue.atReset (q : PlantPage) (pages : Vector ProgrammePage 8) : WashQueue where
  entries := []
  joinCounter := 0
  joins := 0
  views := q.filters.map fun c => ⟨if c.present then .below else .out, 0⟩
  covered := Vector.replicate 16 false
  pageStatus := pages.map ProgrammePage.status
  plantCommitting := false
  serviceCount := 0
  floor := q.floor
  candidate := none

/-- Table 3-1, last column (R44). -/
def AdmissionUnit.atReset : AdmissionUnit where
  candidate := none
  waitReason := .noWait
  paused := false
  spacing := none
  activeCount := 0
  admissionCounter := 0
  tankLevel := none
  basinLevel := none
  primed := false
  tankView := ⟨false, true⟩
  flowView := ⟨false, true⟩
  basinView := ⟨false, true⟩
  lastNeeded := none
  stallCount := 0
  stallHolds := false
  rotationStalled := false
  forcedWaiting := false

/-- Table 4-3, last column: after reset and on return to IDLE (R66). -/
def Slot.atReset : Slot where
  state := .idle
  filter := none
  page := none
  ticket := 0
  programme := []
  areaCopy := 0
  pumpCopy := 0
  demands := []
  reservation := 0
  delivered := 0
  stepIndex := 0
  repeatsLeft := 0
  stepElapsed := 0
  rampK := 1
  retryUsed := false
  valveTimer := none
  stepTimer := none
  supplyWait := none
  rampTimer := none
  shortfall := none
  resettle := none
  haltTimer := none
  clearHold := .stopped
  filterStale := false
  peakWaste := none
  startMinute := 0
  rateClamped := false
  flowUnsupervised := false
  ripenLong := false
  historyUnknown := false
  noticeOwed := none

/-- Table 5-1, last column, with BLOWER_RUN inactive (R90, R98). -/
def Arbiter.atReset : Arbiter where
  airHolder := none
  waterHolder := none
  requests := []
  tankLow := false
  basinFull := false
  tankFault := false
  flowFault := false
  waterDemand := 0
  blowerRun := false

/-- Table 7-1, last column (R119). -/
def ChannelRec.atReset : ChannelRec where
  fault := false
  lastRaw := none
  lastScaled := none
  lastClamped := false
  windowCount := 0
  windowSum := 0
  average := none
  faultEntries := 0
  extreme := none

/-- Tables 7-1 and 7-2, last columns (R119). -/
def Monitor.atReset : Monitor where
  tank := ChannelRec.atReset
  flow := ChannelRec.atReset
  basin := ChannelRec.atReset
  primed := false
  tankLow := false
  basinFull := false
  signalFault := false
  refill := false
  waterView := none
  unattributed := 0
  totalLitres := 0
  totalRemainder := 0
  rollover := 0
  sampleCount := 0

/-- A programme page as delivered: factory default, matching check value, marker clear (R132). -/
def ProgrammePage.delivered : ProgrammePage where
  steps := factoryProgramme
  check := programmeCheck factoryProgramme
  marker := false
  valid := true

/-- The plant page as delivered (R132). -/
def StoredPlant.delivered : StoredPlant where
  content := PlantPage.factory
  check := plantCheck PlantPage.factory
  marker := false
  valid := true

/-- The Page Store of a part as delivered, after its first revalidation (R132). -/
def PageStore.delivered : PageStore where
  programmes := Vector.replicate 8 ProgrammePage.delivered
  plant := StoredPlant.delivered
  latch := none
  staging := none
  commit := none
  owedDone := none
  pageInvalid := false

/-- The validity that the revalidation gives a programme page: marker clear and matching check value
(R133). -/
def ProgrammePage.revalidate (g : ProgrammePage) : ProgrammePage :=
  { g with valid := !g.marker && programmeCheck g.steps == g.check }

/-- The validity that the revalidation gives the plant page (R133). -/
def StoredPlant.revalidate (g : StoredPlant) : StoredPlant :=
  { g with valid := !g.marker && plantCheck g.content == g.check }

/-- Whether any of the nine pages is INVALID (R133). -/
def PageStore.anyInvalid (t : PageStore) : Bool :=
  !t.plant.valid || t.programmes.toList.any fun g => !g.valid

/-- The revalidation of all nine pages, with the volatile items at their reset values (R132, R133). -/
def PageStore.revalidate (t : PageStore) : PageStore :=
  let t1 : PageStore :=
    { programmes := t.programmes.map ProgrammePage.revalidate
      plant := t.plant.revalidate
      latch := none
      staging := none
      commit := none
      owedDone := none
      pageInvalid := false }
  { t1 with pageInvalid := t1.anyInvalid }

/-- The plant page in force: the stored one if it is VALID, the factory defaults if not (R133). -/
def PageStore.inForce (t : PageStore) : PlantPage :=
  if t.plant.valid then t.plant.content else PlantPage.factory

/-- The journal after reset (R145). -/
def Journal.atReset : Journal := ⟨[], 0⟩

/-- The Status and Alert Unit with every copy clear and both lines inactive, as during a reset
(R147, R149). -/
def Status.allClear : Status := ⟨0, 0, false, false⟩

/-- The Status and Alert Unit after reset: PAGE_INVALID live and latched if a page is INVALID, and the
lines evaluated (R147, R149). -/
def Status.atReset (q : PlantPage) (invalid : Bool) : Status :=
  if invalid then Status.allClear.setLive q .pageInvalid true else Status.allClear.evaluate q

/-- The line rate that the straps give (Table 11-2). -/
def LineRate.ofStraps (baud1 baud0 : Bool) : LineRate :=
  match baud1, baud0 with
  | false, false => .baud19200
  | false, true => .baud38400
  | true, false => .baud57600
  | true, true => .baud115200

end Sys2Proof.Machine
end

