-- ==== Sys2Proof/Machine/State.lean ====
section
/-! DEFINITION. The state of the part, the reasons for which a command could stop, and the state right
after reset. -/

namespace Sys2Proof.Machine

/-- The whole state: one field per block, the Timebase, the pins, and two fields of the model's own. -/
structure State where
  /-- A reset is in force: from its assertion to START_UP (R163). -/
  inReset : Bool
  /-- The line rate read from the straps (R163). -/
  lineRate : LineRate
  ports : Ports
  filters : FilterTable
  queue : WashQueue
  admission : AdmissionUnit
  slotA : Slot
  slotB : Slot
  arbiter : Arbiter
  monitor : Monitor
  store : PageStore
  journal : Journal
  status : Status
  /-- The plant clock in minutes (R161). -/
  clock : Count32
  /-- The seconds count, 0 to 59 (R161). -/
  seconds : Nat
  /-- The model's own: how many free choices have been taken (log 4). -/
  free : Nat
  /-- The model's own: the commands that are waiting, first in first out. -/
  pending : List Instr
deriving DecidableEq, Repr, Inhabited

/-- The reasons for which a command could fault. The manual gives the part no event that stops it, so
no command raises one (log 19). -/
inductive Fault where
  /-- Raised by no command (safe: a stop that never happens hides nothing). -/
  | neverRaised
deriving DecidableEq, Repr, Inhabited

/-- The reasons for which a command could be refused. -/
inductive Refusal where
  /-- Raised by an arm of `exec` whose command has no meaning yet (safe); no arm is left so. -/
  | notModelled (mnemonic : String)
deriving DecidableEq, Repr, Inhabited

/-- The state at the end of start-up from a page store that has been revalidated: every block at its
reset values, read from the plant page in force where its chapter says so (R163). -/
def State.booted (t : PageStore) (rate : LineRate) (free : Nat) (pending : List Instr) : State where
  inReset := false
  lineRate := rate
  ports := ⟨PortRec.atReset, PortRec.atReset, PortRec.atReset, PortRec.atReset⟩
  filters := FilterTable.atReset t.inForce
  queue := WashQueue.atReset t.inForce t.programmes
  admission := AdmissionUnit.atReset
  slotA := Slot.atReset
  slotB := Slot.atReset
  arbiter := Arbiter.atReset
  monitor := Monitor.atReset
  store := t
  journal := Journal.atReset
  status := Status.atReset t.inForce t.pageInvalid
  clock := 0
  seconds := 0
  free := free
  pending := pending

/-- The machine right after reset: a part as delivered, at the end of start-up, with both straps low
(log 7) and no command waiting. -/
def State.reset : State := State.booted PageStore.delivered .baud19200 0 []

end Sys2Proof.Machine
end

