-- ==== Sys2Proof/Machine/Ops.lean ====
section
/-! DEFINITION. The named operations over the state: reading and writing a port, a filter record, a
slot and a channel; the plant page in force; the flags; counts; and the choice between two orders that
the manual leaves open. -/

namespace Sys2Proof.Machine

/-! ### Parts of the state -/

/-- A port record. -/
def State.port (s : State) : Port → PortRec
  | .p0 => s.ports.p0
  | .p1 => s.ports.p1
  | .p2 => s.ports.p2
  | .p3 => s.ports.p3

/-- The state with a port record replaced. -/
def State.setPort (p : Port) (r : PortRec) (s : State) : State :=
  match p with
  | .p0 => { s with ports := { s.ports with p0 := r } }
  | .p1 => { s with ports := { s.ports with p1 := r } }
  | .p2 => { s with ports := { s.ports with p2 := r } }
  | .p3 => { s with ports := { s.ports with p3 := r } }

/-- A wash slot. -/
def State.slot (s : State) : SlotId → Slot
  | .a => s.slotA
  | .b => s.slotB

/-- The state with a wash slot replaced. -/
def State.setSlot (i : SlotId) (x : Slot) (s : State) : State :=
  match i with
  | .a => { s with slotA := x }
  | .b => { s with slotB := x }

/-- A filter record. -/
def State.filter (s : State) (f : FilterNo) : FilterRec := s.filters.records[f]

/-- The state with a filter record replaced. -/
def State.setFilter (f : FilterNo) (r : FilterRec) (s : State) : State :=
  { s with filters := { s.filters with records := s.filters.records.set f r } }

/-- A channel record of the monitor. -/
def Monitor.channel (m : Monitor) : Channel → ChannelRec
  | .tank => m.tank
  | .flow => m.flow
  | .basin => m.basin

/-- The monitor with a channel record replaced. -/
def Monitor.setChannel (c : Channel) (r : ChannelRec) (m : Monitor) : Monitor :=
  match c with
  | .tank => { m with tank := r }
  | .flow => { m with flow := r }
  | .basin => { m with basin := r }

/-- The state with a channel record replaced. -/
def State.setChannel (c : Channel) (r : ChannelRec) (s : State) : State :=
  { s with monitor := s.monitor.setChannel c r }

/-- The plant page in force (R133). -/
def State.plant (s : State) : PlantPage := s.store.inForce

/-! ### Flags -/

/-- An event flag is latched and the alert lines are evaluated (R147, R149). -/
def State.latchFlag (x : Flag) (s : State) : State :=
  { s with status := s.status.latch s.plant x }

/-- A live condition takes a value and the alert lines are evaluated (R147, R149). -/
def State.setLive (x : Flag) (value : Bool) (s : State) : State :=
  { s with status := s.status.setLive s.plant x value }

/-- A live condition handed to the Status and Alert Unit only if it changed (R61, R124, R125). -/
def State.handLive (x : Flag) (was now : Bool) (s : State) : State :=
  if was = now then s else s.setLive x now

/-! ### Counts -/

/-- Ticket `a` is earlier than ticket `b`: the count from `a` forward to `b`, modulo 2^32, is not 0 and
less than 2^31 (R29, R59). -/
def ticketEarlier (a b : Count32) : Bool := a != b && (b - a).toNat < 2147483648

/-- A measurement clamped to 0 to 9999 (R13). -/
def clampMeasure (v : Nat) : Nat := min 9999 v

/-- The current on the WATER_DEMAND output in units of 1/9999 microampere: 4 mA at 0 L/s and 20 mA at
9999 L/s, linear (Table 11-1). -/
def State.loopCurrent (s : State) : Nat := 4000 * 9999 + 16000 * s.arbiter.waterDemand

/-! ### Choices the manual leaves open -/

/-- The next free choice, as a number (log 4). -/
def State.choice (s : State) : Nat := Config.freeChoice s.free

/-- The state after a free choice has been taken. -/
def State.chosen (s : State) : State := { s with free := s.free + 1 }

/-- Two parts of one event whose order the manual leaves open ("either may be taken first"): where the
orders agree, that result; where they do not, one of the two, freely (log 4). -/
def eitherOrder (f g : State → State) (s : State) : State :=
  let c := s.choice
  let s0 := s.chosen
  let x := g (f s0)
  let y := f (g s0)
  if x = y then x else if c % 2 = 0 then x else y

/-! ### Running and being held in reset -/

/-- The outcome of a command that acts only while no reset is in force: bytes are not received, no
sample is taken and no timer runs during a reset (R163). -/
def State.whenRunning (f : State → State) (s : State) : Host.Outcome State Fault Refusal :=
  .next (if s.inReset then s else f s)

end Sys2Proof.Machine
end

