-- ==== Sys2Proof/Machine/WashQueue.lean ====
section
/-! DEFINITION. The Wash Queue as operations on the queue alone (R28 to R38): order, joins, standing
notices, requests and withdrawals. The choice of candidate, which reads other blocks, stands in
`Machine/Rotation.lean`. -/

namespace Sys2Proof.Machine

/-- A class's rank in the order of the queue (R29). -/
def EntryClass.rank : EntryClass → Nat
  | .forced => 0
  | .requested => 1
  | .due => 2

/-- Entry `a` stands before entry `b`: by class, then higher urgency, then the earlier join (R29). -/
def Entry.before (a b : Entry) : Bool :=
  decide (a.cls.rank < b.cls.rank) ||
    (decide (a.cls.rank = b.cls.rank) &&
      (decide (b.urgency < a.urgency) ||
        (decide (a.urgency = b.urgency) && decide (a.order < b.order))))

/-- An entry placed in an ordered list (R29). -/
def insertEntry (e : Entry) : List Entry → List Entry
  | [] => [e]
  | x :: xs => if e.before x then e :: x :: xs else x :: insertEntry e xs

/-- The entry of a filter, if it has one. -/
def WashQueue.entry (q : WashQueue) (f : FilterNo) : Option Entry :=
  q.entries.find? fun e => e.filter == f

/-- The entry of a filter leaves the queue. -/
def WashQueue.drop (f : FilterNo) (q : WashQueue) : WashQueue :=
  { q with entries := q.entries.filter fun e => e.filter != f }

/-- An entry replaces the one its filter has, at the place the order gives it (R29). -/
def WashQueue.place (e : Entry) (q : WashQueue) : WashQueue :=
  { q with entries := insertEntry e (q.drop e.filter).entries }

/-- A join: the counter rises by 1 and the new entry takes its value as join ticket (R28). -/
def WashQueue.join (minute : Count32) (f : FilterNo) (cls : EntryClass)
    (reason : Option ForcedReason) (urgency : Nat) (by_ : Option Port) (q : WashQueue) : WashQueue :=
  WashQueue.place
    { filter := f, cls := cls, reason := reason, urgency := urgency,
      ticket := q.joinCounter + 1, joinMinute := minute, requestedBy := by_, order := q.joins + 1 }
    { q with joinCounter := q.joinCounter + 1, joins := q.joins + 1 }

/-- The queue's view of a filter takes a standing and an urgency (R30). -/
def WashQueue.setView (f : FilterNo) (v : View) (q : WashQueue) : WashQueue :=
  { q with views := q.views.set f v }

/-- What a standing notice does to the entry of a filter (R31, R32). -/
def WashQueue.noticeEntry (f : FilterNo) (e : Entry) (standing : Standing) (urgency : Nat)
    (q : WashQueue) : WashQueue :=
  match standing with
  | .out => q.drop f
  | .limit => q.place { e with cls := .forced, reason := some .limit, urgency := urgency }
  | .due | .hold => q.place { e with urgency := urgency }
  | .below => if e.cls = .due then q.drop f else q.place { e with urgency := urgency }

/-- A standing notice is taken: it is recorded in the view, then acts on the list (R30, R31, R32). -/
def WashQueue.takeNotice (minute : Count32) (f : FilterNo) (standing : Standing) (urgency : Nat)
    (q : WashQueue) : WashQueue :=
  let q1 := q.setView f ⟨standing, urgency⟩
  match q1.entry f with
  | some e => q1.noticeEntry f e standing urgency
  | none =>
    match standing with
    | .limit => q1.join minute f .forced (some .limit) urgency none
    | .due => q1.join minute f .due none urgency none
    | _ => q1

/-- WASH_REQUEST of kind REQUESTED at the queue (R35). -/
def WashQueue.takeRequested (minute : Count32) (f : FilterNo) (p : Port) (q : WashQueue) :
    WashQueue :=
  match q.entry f with
  | none => q.join minute f .requested none (q.views[f]).urgency (some p)
  | some e =>
    match e.cls with
    | .due => q.place { e with cls := .requested, requestedBy := some p }
    | .requested => q.place { e with requestedBy := some p }
    | .forced => q

/-- WASH_REQUEST of kind FORCE at the queue (R36). -/
def WashQueue.takeForce (minute : Count32) (f : FilterNo) (p : Port) (q : WashQueue) : WashQueue :=
  match q.entry f with
  | none => q.join minute f .forced (some .supervisor) (q.views[f]).urgency (some p)
  | some e =>
    match e.cls with
    | .due | .requested =>
      q.place { e with cls := .forced, reason := some .supervisor, requestedBy := some p }
    | .forced => q

/-- The withdrawal of a REQUESTED or supervisor-forced entry: it stays as a DUE entry if the queue's
view of the filter is DUE, and leaves if not (R38). -/
def WashQueue.takeBack (f : FilterNo) (e : Entry) (q : WashQueue) : WashQueue :=
  if (q.views[f]).standing = .due then
    q.place { e with cls := .due, reason := none, requestedBy := none }
  else q.drop f

/-- The entry of an admitted filter leaves and its view becomes OUT, keeping its urgency (R30, R41). -/
def WashQueue.admitFilter (f : FilterNo) (q : WashQueue) : WashQueue :=
  (q.drop f).setView f ⟨.out, (q.views[f]).urgency⟩

end Sys2Proof.Machine
end

