-- ==== Sys2Proof/Machine/FilterTable.lean ====
section
/-! DEFINITION. The Filter Table (R1 to R27): criterion fractions, urgency, standing and standing
notices, mode changes, reports, the minute event, wash ends, class changes, and the plant page commit. -/

namespace Sys2Proof.Machine

/-! ### Fractions, urgency, standing -/

/-- A criterion fraction: 256 times the value, divided by the limit, at most 1023 (R18). -/
def fraction (value limit : Nat) : Nat := min 1023 (256 * value / limit)

/-- The fraction of a measurement; an absent one gives 0 (R18). -/
def measureFraction (m : Option Nat) (limit : Nat) : Nat :=
  match m with
  | none => 0
  | some v => fraction v limit

/-- The urgency taken anew as the largest of the three fractions (R19). -/
def FilterRec.withUrgency (r : FilterRec) : FilterRec :=
  { r with urgency := max (max r.headlossFraction r.turbidityFraction) r.runFraction }

/-- The run fraction and the urgency recomputed (R18, R19). -/
def FilterRec.withRunFraction (r : FilterRec) : FilterRec :=
  { r with runFraction := fraction r.runMinutes r.runLimit }.withUrgency

/-- All three fractions and the urgency recomputed (R11, R18, R19). -/
def FilterRec.withFractions (r : FilterRec) : FilterRec :=
  { r with
    headlossFraction := measureFraction r.headloss r.headlossLimit
    turbidityFraction := measureFraction r.turbidity r.turbidityLimit
    runFraction := fraction r.runMinutes r.runLimit }.withUrgency

/-- The standing that a record asks for under a due threshold: the first line of R21's table that
applies. -/
def FilterRec.deriveStanding (threshold : Nat) (r : FilterRec) : Standing :=
  if r.state = .absent ∨ r.state = .wash then .out
  else if r.washFailed then .below
  else if 256 ≤ r.headlossFraction ∨ 256 ≤ r.turbidityFraction ∨ 256 ≤ r.runFraction then .limit
  else if r.state = .service ∧ threshold ≤ r.urgency ∧ r.deferralMark.getD 0 ≤ r.urgency then .due
  else if threshold ≤ r.urgency then .hold
  else .below

/-- The plant page threshold of a class (R20). -/
def PlantPage.threshold (q : PlantPage) : RawClass → Nat
  | .normal => q.thresholdNormal
  | .elevated => q.thresholdElevated
  | .flood => q.thresholdFlood

/-- The due threshold in force (R20). -/
def State.dueThreshold (s : State) : Nat := s.plant.threshold s.filters.rawClass

/-! ### Standing notices and the service count -/

/-- A standing notice to the Wash Queue (R22, R30 to R32). -/
def State.standingNotice (f : FilterNo) (s : State) : State :=
  { s with queue :=
      s.queue.takeNotice s.clock f (s.filter f).standing (s.filter f).urgency }

/-- The record of a filter is replaced and its standing evaluated; the queue is told if the standing or
the urgency is not what it was (R21, R22). -/
def State.fileFilter (f : FilterNo) (r : FilterRec) (s : State) : State :=
  let old := s.filter f
  let new : FilterRec := { r with standing := r.deriveStanding s.dueThreshold }
  let s1 := s.setFilter f new
  if new.standing = old.standing ∧ new.urgency = old.urgency then s1 else s1.standingNotice f

/-- The service count takes a value and is handed to the Wash Queue (R3). -/
def State.setServiceCount (n : Nat) (s : State) : State :=
  { s with
    filters := { s.filters with serviceCount := n }
    queue := { s.queue with serviceCount := n } }

/-- The service count after a filter goes from one state to another (R3). -/
def State.countTransition (was now : FilterState) (s : State) : State :=
  if was = now then s
  else if now = .service then s.setServiceCount (s.filters.serviceCount + 1)
  else if was = .service then s.setServiceCount (s.filters.serviceCount - 1)
  else s

/-! ### Stale and turbidity signals to a slot -/

/-- Whether a slot is active and holds a filter. -/
def Slot.holds (x : Slot) (f : FilterNo) : Bool := x.state != .idle && x.filter == some f

/-- The active slot that holds a filter (R6). -/
def State.holdingSlot (s : State) (f : FilterNo) : Option SlotId :=
  if s.slotA.holds f then some .a else if s.slotB.holds f then some .b else none

/-- The clear-hold timer at a stale signal (R81). -/
def ClearHold.onStale (h : ClearHold) (stale : Bool) : ClearHold :=
  match h, stale with
  | .running n, true => .frozen n
  | .frozen n, false => .running n
  | h, _ => h

/-- The slot takes a stale signal (R81). -/
def Slot.onStale (stale : Bool) (x : Slot) : Slot :=
  { x with filterStale := stale, clearHold := x.clearHold.onStale stale }

/-- The step record at the slot's step index. -/
def Slot.step (x : Slot) : StepRec := x.programme.getD x.stepIndex StepRec.blank

/-- The slot takes a turbidity value: in RUN of a WASTE step it enters the peak and the clear hold; in
any other state or step it is ignored (R80). -/
def Slot.onTurbidity (v : Nat) (x : Slot) : Slot :=
  if x.state = .run ∧ x.step.kind = .waste then
    { x with
      peakWaste := some (max v (x.peakWaste.getD 0))
      clearHold :=
        if v ≤ x.step.ripenLimit then
          (if x.clearHold = .stopped then .running x.step.clearHold else x.clearHold)
        else .stopped }
  else x

/-- A signal to the slot that holds a filter, if there is one. -/
def State.signalSlot (f : FilterNo) (g : Slot → Slot) (s : State) : State :=
  match s.holdingSlot f with
  | none => s
  | some i => s.setSlot i (g (s.slot i))

/-- The stale flag of a WASH filter changed: its slot is signalled (R14, R15, R16). -/
def State.staleChanged (f : FilterNo) (was now : Bool) (s : State) : State :=
  if was = now then s else s.signalSlot f (Slot.onStale now)

/-! ### Mode changes (R4, R5) -/

/-- The effect of an accepted FILTER_MODE (R5). -/
def State.modeChange (f : FilterNo) (mode : FilterState) (minutes : Option Nat) (s : State) : State :=
  let r := s.filter f
  let r1 : FilterRec := { r with state := mode, washFailed := false }
  let r2 : FilterRec :=
    match minutes with
    | none => r1
    | some m => { r1 with runMinutes := m, historyUnknown := false }.withRunFraction
  (s.countTransition r.state mode).fileFilter f r2

/-! ### Reports (R12 to R14) -/

/-- A measurement carried by a report is taken into a record field: the clamped value and whether it was
clamped (R13). -/
def FilterRec.takeReport (headloss turbidity : Option Nat) (r : FilterRec) : FilterRec :=
  let r1 : FilterRec :=
    match headloss with
    | none => r
    | some v =>
      { r with
        headloss := some (clampMeasure v), headlossClamped := decide (9999 < v)
        headlossFraction := fraction (clampMeasure v) r.headlossLimit }
  let r2 : FilterRec :=
    match turbidity with
    | none => r1
    | some v =>
      { r1 with
        turbidity := some (clampMeasure v), turbidityClamped := decide (9999 < v)
        turbidityFraction := fraction (clampMeasure v) r1.turbidityLimit }
  { r2 with reportAge := 0, stale := false }.withUrgency

/-- A REPORT accepted for a filter in STANDBY or SERVICE (R13). -/
def State.reportStanding (f : FilterNo) (headloss turbidity : Option Nat) (s : State) : State :=
  s.fileFilter f ((s.filter f).takeReport headloss turbidity)

/-- A REPORT accepted for a filter in WASH: the age and the stale flag, then the turbidity to the slot
(R14). -/
def State.reportWash (f : FilterNo) (turbidity : Option Nat) (s : State) : State :=
  let r := s.filter f
  let s1 := (s.setFilter f { r with reportAge := 0, stale := false }).staleChanged f r.stale false
  match turbidity with
  | none => s1
  | some v => s1.signalSlot f (Slot.onTurbidity (clampMeasure v))

/-! ### The minute event (R15, R17) -/

/-- Report age and stale of a filter that is not ABSENT, one minute later (R15). -/
def FilterRec.aged (limit : Nat) (r : FilterRec) : FilterRec :=
  let age := min 255 (r.reportAge + 1)
  { r with reportAge := age, stale := r.stale || decide (limit ≤ age) }

/-- The minute event at one record (R17). -/
def State.filterMinute (f : FilterNo) (s : State) : State :=
  let r := s.filter f
  let aged := r.aged s.plant.staleLimit
  match r.state with
  | .absent => s
  | .standby => s.setFilter f aged
  | .service =>
    s.fileFilter f { aged with runMinutes := min 65535 (r.runMinutes + 1) }.withRunFraction
  | .wash => (s.setFilter f aged).staleChanged f r.stale aged.stale

/-- The minute event at all sixteen records, notices in ascending filter number (R17). -/
def State.filtersMinute (s : State) : State := allFilters.foldl (fun t f => t.filterMinute f) s

/-! ### Class, wash failed, deferral -/

/-- The standing of a filter in STANDBY or SERVICE evaluated anew (R20, R21). -/
def State.restand (f : FilterNo) (s : State) : State :=
  match (s.filter f).state with
  | .standby | .service => s.fileFilter f (s.filter f)
  | _ => s

/-- The class takes a value and the standings follow, unless it is the current class (R20). -/
def State.takeClass (c : RawClass) (s : State) : State :=
  if c = s.filters.rawClass then s
  else
    allFilters.foldl (fun t f => t.restand f)
      { s with filters := { s.filters with rawClass := c } }

/-- Wash failed is cleared at an accepted WASH_REQUEST and the standing evaluated at once (R23, R35). -/
def State.clearWashFailed (f : FilterNo) (s : State) : State :=
  if (s.filter f).washFailed then s.fileFilter f { s.filter f with washFailed := false } else s

/-- The deferral mark is set at the withdrawal of a DUE entry (R24). -/
def State.defer (f : FilterNo) (s : State) : State :=
  s.fileFilter f { s.filter f with deferralMark := some (min 1023 ((s.filter f).urgency + 32)) }

/-! ### Admission and wash end -/

/-- The filter enters WASH at its admission: the service count, the standing OUT without a notice, and
an owed WASH_END dropped (R6). -/
def State.filterAdmitted (f : FilterNo) (s : State) : State :=
  let r := s.filter f
  (s.countTransition r.state .wash).setFilter f
    { r with state := .wash, standing := .out, endOwed := false }

/-- The history fields at a wash end (R9). -/
def FilterRec.ended (outcome : WashOutcome) (cause : Cause) (seq : Count16) (r : FilterRec) :
    FilterRec :=
  { r with
    washCount := r.washCount + 1
    abortCount := if outcome = .aborted then min 255 (r.abortCount + 1) else r.abortCount
    lastOutcome := some outcome
    lastCause := cause
    lastSequence := some seq
    endOwed := true }

/-- The measure of need reset at a complete outcome (R7). -/
def FilterRec.renewed (state : FilterState) (r : FilterRec) : FilterRec :=
  { r with
    state := state
    runMinutes := 0
    headloss := none
    headlossClamped := false
    turbidity := none
    turbidityClamped := false
    headlossFraction := 0
    turbidityFraction := 0
    runFraction := 0
    urgency := 0
    deferralMark := none
    washFailed := false
    historyUnknown := false }

/-- The filter at its wash end (R7, R8, R9): its state after the wash, or ABSENT without a notice when
the plant page in force marks it not present. -/
def State.filterWashEnd (f : FilterNo) (outcome : WashOutcome) (cause : Cause) (seq : Count16)
    (s : State) : State :=
  let r := (s.filter f).ended outcome cause seq
  if (s.plant.filters[f]).present then
    match outcome with
    | .complete => (s.countTransition r.state .service).fileFilter f (r.renewed .service)
    | .completeRipenLong => (s.countTransition r.state .standby).fileFilter f (r.renewed .standby)
    | .aborted =>
      (s.countTransition r.state .standby).fileFilter f { r with state := .standby, washFailed := true }
  else (s.countTransition r.state .absent).setFilter f { r with state := .absent, standing := .out }

/-! ### Plant page commit (R10, R11) -/

/-- A filter entering STANDBY from ABSENT takes the fresh values of Table 1-2 and keeps its history
(R10). -/
def FilterRec.readmitted (r : FilterRec) : FilterRec :=
  { r with
    state := .standby
    headloss := none
    headlossClamped := false
    turbidity := none
    turbidityClamped := false
    reportAge := 0
    stale := false
    runMinutes := 0
    headlossFraction := 0
    turbidityFraction := 0
    runFraction := 0
    urgency := 0
    deferralMark := none
    washFailed := false
    historyUnknown := true }

/-- The present setting applied to one record (R10). -/
def FilterRec.applyPresence (present : Bool) (r : FilterRec) : FilterRec :=
  match r.state, present with
  | .absent, true => r.readmitted
  | .standby, false => { r with state := .absent }
  | .service, false => { r with state := .absent }
  | _, _ => r

/-- The settings copied from the new page, the fractions recomputed and stale set afresh for every
filter but an ABSENT one (R11, R16). -/
def FilterRec.copySettings (c : FilterCfg) (staleLimit : Nat) (r : FilterRec) : FilterRec :=
  let r1 : FilterRec :=
    { r with
      area := c.area
      programme := c.programme
      headlossLimit := c.headlossLimit
      turbidityLimit := c.turbidityLimit
      runLimit := c.runLimit }
  if r1.state = .absent then r1
  else { r1.withFractions with stale := decide (staleLimit ≤ r1.reportAge) }

/-- One record at a plant page commit completion, before standings are evaluated (R10, R11). -/
def FilterRec.onCommit (q : PlantPage) (f : FilterNo) (r : FilterRec) : FilterRec :=
  (r.applyPresence (q.filters[f]).present).copySettings q.filters[f] q.staleLimit

/-- One filter's standing and notice at a plant page commit completion; a WASH filter's urgency is held
in its record, and its slot learns of a changed stale flag (R11, R16, R22). -/
def State.filterCommit (f : FilterNo) (s : State) : State :=
  let old := s.filter f
  let new := old.onCommit s.plant f
  if old.state = .wash then (s.setFilter f new).staleChanged f old.stale new.stale
  else s.fileFilter f new

/-- The number of filters in SERVICE once the new page's presence has been applied (R3, R10). -/
def State.serviceAfterCommit (s : State) : Nat :=
  (allFilters.filter fun f =>
    ((s.filter f).applyPresence (s.plant.filters[f]).present).state == .service).length

/-- The Filter Table at a plant page commit completion: the service count is handed over once with its
final value, then records and notices follow in ascending filter number (R3, R10, R11). -/
def State.filtersCommit (s : State) : State :=
  allFilters.foldl (fun t f => t.filterCommit f) (s.setServiceCount s.serviceAfterCommit)

end Sys2Proof.Machine
end

