-- ==== Sys2Proof/Machine/Arbiter.lean ====
section
/-! DEFINITION. The Supply Arbiter with the slots it serves (R65, R68, R72 to R74, R90 to R100): what a
step needs, entering SETUP and RUN, requests, grants, grant passes and releases. -/

namespace Sys2Proof.Machine

/-! ### What a step needs -/

/-- The grants a step kind needs, none for a non-supply step (Table 4-2). -/
def StepKind.needs : StepKind → Option SupplySet
  | .air => some .air
  | .water => some .water
  | .airWater => some .airWater
  | .drain | .settle | .waste => none

/-- The set includes the air grant. -/
def SupplySet.hasAir : SupplySet → Bool
  | .air | .airWater => true
  | .water => false

/-- The set includes the water grant. -/
def SupplySet.hasWater : SupplySet → Bool
  | .water | .airWater => true
  | .air => false

/-- A step of this kind draws water (R65). -/
def StepKind.isWater : StepKind → Bool
  | .airWater | .water => true
  | _ => false

/-- The demand of the slot's current step (R52, R58). -/
def Slot.demandNow (x : Slot) : Nat := x.demands.getD x.stepIndex 0

/-- The repeat index: the step's repeat less repeats left, plus 1 (R68). -/
def Slot.repeatIndex (x : Slot) : Nat := x.step.repeats - x.repeatsLeft + 1

/-- The demand at the slot's ramp position, floor(D × k / 16) (R99). -/
def Slot.rampDemand (x : Slot) : Nat := x.demandNow * x.rampK / 16

/-! ### Entering SETUP and RUN -/

/-- A slot enters SETUP: STEP_SET owed in place of any owed notice, valve timer stopped (R68). -/
def Slot.enterSetup (x : Slot) : Slot :=
  { x with state := .setup, noticeOwed := some .stepSet, valveTimer := none }

/-- A slot enters RUN, or enters it again for the next repeat: STEP_RUN owed, the step timer started,
the ramp of a water step at k0, the shortfall and clear-hold timers stopped, and in a WASTE step the
peak no longer absent (R74, R78, R100, R104). -/
def Slot.enterRun (q : PlantPage) (x : Slot) : Slot :=
  { x with
    state := .run
    noticeOwed := some .stepRun
    stepElapsed := 0
    stepTimer := some x.step.duration
    rampK := if x.step.kind.isWater then q.rampStart else x.rampK
    rampTimer := if x.step.kind.isWater ∧ q.rampStart < 16 then some q.rampInterval else none
    shortfall := none
    clearHold := .stopped
    peakWaste := if x.step.kind = .waste then some (x.peakWaste.getD 0) else x.peakWaste }

/-! ### Requests -/

/-- A request placed in admission ticket order (R91). -/
def insertRequest (r : Request) : List Request → List Request
  | [] => [r]
  | x :: xs => if ticketEarlier r.ticket x.ticket then r :: x :: xs else x :: insertRequest r xs

/-- A slot's request leaves the list (R91). -/
def Arbiter.withdraw (i : SlotId) (a : Arbiter) : Arbiter :=
  { a with requests := a.requests.filter fun r => r.slot != i }

/-- Any item of the water bar view is set (R92). -/
def Arbiter.barred (a : Arbiter) : Bool := a.tankLow || a.basinFull || a.tankFault || a.flowFault

/-- A set can be granted whole at this moment (R93). -/
def Arbiter.grantable (a : Arbiter) (set : SupplySet) : Bool :=
  (!set.hasAir || a.airHolder.isNone) &&
    (!set.hasWater || (a.waterHolder.isNone && !a.barred))

/-! ### Grants -/

/-- The arbiter's part of a grant: the request leaves, the holders and BLOWER_RUN take the slot
(R95 parts 1, 2 and 4). -/
def Arbiter.give (r : Request) (a : Arbiter) : Arbiter :=
  { a.withdraw r.slot with
    airHolder := if r.set.hasAir then some r.slot else a.airHolder
    blowerRun := if r.set.hasAir then true else a.blowerRun
    waterHolder := if r.set.hasWater then some r.slot else a.waterHolder }

/-- The slot takes its grant: the supply-wait timer stops and it enters RUN (R73). -/
def Slot.takeGrant (q : PlantPage) (x : Slot) : Slot := { x with supplyWait := none }.enterRun q

/-- A grant, whole and as one event (R95). -/
def State.grantRequest (r : Request) (s : State) : State :=
  let x := (s.slot r.slot).takeGrant s.plant
  let a := s.arbiter.give r
  { s.setSlot r.slot x with
    arbiter := { a with waterDemand := if r.set.hasWater then x.rampDemand else a.waterDemand }
    monitor := { s.monitor with
      waterView := if r.set.hasWater then some r.slot else s.monitor.waterView } }

/-- A grant pass: the requests in ticket order, each granted if its set is grantable given the grants
made before it (R94). -/
def State.grantPass (s : State) : State :=
  s.arbiter.requests.foldl
    (fun t r => if t.arbiter.grantable r.set then t.grantRequest r else t) s

/-- A slot enters WAIT_SUPPLY with its request for the step's whole set, and the pass that follows the
request is made (R72, R91, R94). -/
def State.enterWaitSupply (i : SlotId) (set : SupplySet) (s : State) : State :=
  let x : Slot :=
    { s.slot i with state := .waitSupply, supplyWait := some s.plant.supplyWaitLimit }
  State.grantPass
    { s.setSlot i x with
      arbiter :=
        { s.arbiter with requests := insertRequest ⟨i, x.ticket, set⟩ s.arbiter.requests } }

/-! ### Releases -/

/-- The slot holds the air grant. -/
def Arbiter.holdsAir (a : Arbiter) (i : SlotId) : Bool := a.airHolder == some i

/-- The slot holds the water grant. -/
def Arbiter.holdsWater (a : Arbiter) (i : SlotId) : Bool := a.waterHolder == some i

/-- The arbiter's part of a release: air, then water (R97 parts 2 and 3). -/
def Arbiter.take (i : SlotId) (a : Arbiter) : Arbiter :=
  { a with
    airHolder := if a.holdsAir i then none else a.airHolder
    blowerRun := if a.holdsAir i then false else a.blowerRun
    waterHolder := if a.holdsWater i then none else a.waterHolder
    waterDemand := if a.holdsWater i then 0 else a.waterDemand }

/-- A slot releases the grants it holds, and a grant pass follows; a slot that holds none has nothing to
release and no pass follows (R97). -/
def State.release (i : SlotId) (s : State) : State :=
  if s.arbiter.holdsAir i || s.arbiter.holdsWater i then
    State.grantPass
      { s.setSlot i { s.slot i with rampTimer := none } with
        arbiter := s.arbiter.take i
        monitor := { s.monitor with
          waterView := if s.arbiter.holdsWater i then none else s.monitor.waterView } }
  else s

/-- A slot withdraws its waiting request; no pass follows (R91, R94). -/
def State.withdraw (i : SlotId) (s : State) : State :=
  { s with arbiter := s.arbiter.withdraw i }

/-- Every timer of a slot's context stopped (R84). -/
def Slot.stopTimers (x : Slot) : Slot :=
  { x with
    valveTimer := none
    stepTimer := none
    supplyWait := none
    rampTimer := none
    shortfall := none
    resettle := none
    haltTimer := none
    clearHold := .stopped }

/-- The step, ramp, shortfall and clear-hold timers stopped, as at every exit from RUN (R79, R85). -/
def Slot.stopRunTimers (x : Slot) : Slot :=
  { x with stepTimer := none, rampTimer := none, shortfall := none, clearHold := .stopped }

/-- A slot leaves RUN: its grants are released, then its timers of RUN stop (R79, R85, R97). -/
def State.leaveRun (i : SlotId) (s : State) : State :=
  let t := s.release i
  t.setSlot i (t.slot i).stopRunTimers

/-- The holder's demand recomputed from its ramp, at a re-entry or a ramp expiry (R99). -/
def State.redriveDemand (i : SlotId) (s : State) : State :=
  if s.arbiter.holdsWater i then
    { s with arbiter := { s.arbiter with waterDemand := (s.slot i).rampDemand } }
  else s

end Sys2Proof.Machine
end

