-- ==== Sys2Proof/Machine/Presence.lean ====
section
/-! DEFINITION. Gallery presence (R113): which port covers a filter, the loss of presence that takes a
slot to HALT (R114), and its return (R116). -/

namespace Sys2Proof.Machine

/-- A port is ATTACHED exactly when it has a role (R151). -/
def PortRec.attached (r : PortRec) : Bool := r.role.isSome

/-- The filter lies inside the bounds. -/
def Bounds.has (b : Bounds) (f : FilterNo) : Bool := decide (b.first ≤ f) && decide (f ≤ b.last)

/-- A port covers a filter while it is attached in GALLERY role with bounds that include it (R151). -/
def PortRec.covers (r : PortRec) (f : FilterNo) : Bool :=
  r.role == some .gallery && r.bounds.any fun b => b.has f

/-- The port that covers a filter, if there is one (R69). -/
def State.coveringPort (s : State) (f : FilterNo) : Option Port :=
  allPorts.find? fun p => (s.port p).covers f

/-- A filter has gallery presence as the Station Link holds it (R113). -/
def State.linkCovers (s : State) (f : FilterNo) : Bool := (s.coveringPort f).isSome

/-- A loss of gallery presence: the slot releases or withdraws, its timers stop, the halt timer starts
(R114). -/
def State.halt (i : SlotId) (s : State) : State :=
  let t := (s.release i).withdraw i
  t.setSlot i { (t.slot i).stopTimers with state := .halt, haltTimer := some t.plant.haltLimit }

/-- The slot takes a loss of presence in SETUP, WAIT_SUPPLY, RUN and RESETTLE (R114). -/
def State.losePresence (i : SlotId) (s : State) : State :=
  match (s.slot i).state with
  | .setup | .waitSupply | .run | .resettle => s.halt i
  | .idle | .halt => s

/-- The return of gallery presence: a slot in HALT enters SETUP for its current step (R116). -/
def State.regainPresence (i : SlotId) (s : State) : State :=
  match (s.slot i).state with
  | .halt => s.setSlot i { s.slot i with haltTimer := none }.enterSetup
  | _ => s

/-- An active slot takes the change of its own filter's coverage, from `before` to what the Station Link
holds now (R113). -/
def State.slotPresence (before : Vector Bool 16) (i : SlotId) (s : State) : State :=
  match (s.slot i).filter with
  | none => s
  | some f =>
    if before[f] && !s.linkCovers f then s.losePresence i
    else if !before[f] && s.linkCovers f then s.regainPresence i
    else s

/-- The covered set as the Station Link holds it. -/
def State.coverage (s : State) : Vector Bool 16 := Vector.ofFn fun f => s.linkCovers f

end Sys2Proof.Machine
end

