-- ==== Sys2Proof/Machine/Rotation.lean ====
section
/-! DEFINITION. The rotation (R39 to R63): eligibility and the candidate, the demand and reservation
arithmetic, tank and basin, the examination, the admission, and the stall and waiting conditions. -/

namespace Sys2Proof.Machine

/-! ### Eligibility and candidate (R39, R40) -/

/-- Whether an entry is eligible, or the first condition that fails (R40). -/
inductive Eligibility where
  | eligible | noPresence | page | floor
deriving DecidableEq, Repr, Inhabited

/-- The eligibility test of an entry (R40). -/
def State.eligibility (s : State) (e : Entry) : Eligibility :=
  let r := s.filter e.filter
  if !s.queue.covered[e.filter] then .noPresence
  else if s.queue.pageStatus[r.programme] ≠ .usable ∨ s.queue.plantCommitting = true then .page
  else if r.state = .standby ∨ (r.state = .service ∧ s.queue.floor + 1 ≤ s.queue.serviceCount) ∨
      s.queue.floor = 0 then .eligible
  else .floor

/-- The first eligible entry's filter, in queue order (R40). -/
def State.firstEligible (s : State) : Option FilterNo :=
  (s.queue.entries.find? fun e => s.eligibility e == .eligible).map Entry.filter

/-! ### Demand and reservation (R52, R53) -/

/-- The demand of a step before the pump capacity bounds it: product over 360, rounded half up (R52). -/
def rawDemand (rate area : Nat) : Nat := (rate * area + 180) / 360

/-- The demand of a step (R52). -/
def stepDemand (area capacity : Nat) (x : StepRec) : Nat :=
  if x.kind.isWater then min capacity (rawDemand x.rate area) else 0

/-- A step is clamped by the pump capacity (R52). -/
def stepClamped (area capacity : Nat) (x : StepRec) : Bool :=
  x.kind.isWater && decide (capacity < rawDemand x.rate area)

/-- The reservation of a programme: demand times duration times repeat, summed over its steps (R53). -/
def reservation (area capacity : Nat) (steps : List StepRec) : Nat :=
  (steps.map fun x => stepDemand area capacity x * x.duration * x.repeats).sum

/-! ### Tank and basin (R54 to R56) -/

/-- Tank available volume, litres (R54). -/
def tankAvailable (q : PlantPage) (level : Nat) : Nat := (level - q.reserveLevel) * q.tankArea / 10

/-- Basin free volume, litres (R55). -/
def basinFree (q : PlantPage) (level : Nat) : Nat := (q.basinMaximum - level) * q.basinArea / 10

/-- The outstanding volume of a slot: reservation less delivered whole litres if active (R56). -/
def Slot.outstanding (x : Slot) : Nat :=
  if x.state = .idle then 0 else x.reservation - x.delivered / 10

/-- The sum of the outstanding volumes of the active slots (R56). -/
def State.outstanding (s : State) : Nat := s.slotA.outstanding + s.slotB.outstanding

/-- The monitor is ready: primed, no channel in fault, every channel fresh (R51). -/
def AdmissionUnit.monitorReady (u : AdmissionUnit) : Bool :=
  u.primed && !u.tankView.fault && !u.flowView.fault && !u.basinView.fault &&
    u.tankView.fresh && u.flowView.fresh && u.basinView.fresh

/-! ### The examination (R46, R47) -/

/-- What an examination of a candidate finds. -/
inductive Verdict where
  /-- A condition fails; `needed` is kept if the fit test was reached. -/
  | waits (reason : WaitReason) (needed : Option Nat)
  /-- Every condition holds. -/
  | fits (needed : Nat)
deriving DecidableEq, Repr

/-- The steps of the programme page that a filter's record names (R52). -/
def State.programmeOf (s : State) (f : FilterNo) : List StepRec :=
  (s.store.programmes[(s.filter f).programme]).steps

/-- The reservation a wash of the filter would have (R53). -/
def State.reservationOf (s : State) (f : FilterNo) : Nat :=
  reservation (s.filter f).area s.plant.pumpCapacity (s.programmeOf f)

/-- The needed volume of a candidate (R56). -/
def State.neededVolume (s : State) (f : FilterNo) : Nat := s.outstanding + s.reservationOf f

/-- The conditions of admission in order (R47). -/
def State.verdict (f : FilterNo) (s : State) : Verdict :=
  let u := s.admission
  let needed := s.neededVolume f
  if ¬ u.activeCount < 2 then .waits .slot none
  else if ¬ u.activeCount < s.plant.maxConcurrent then .waits .concurrency none
  else if u.paused = true then .waits .paused none
  else if u.spacing.isSome = true then .waits .spacing none
  else if u.monitorReady = false then .waits .monitor none
  else if tankAvailable s.plant (u.tankLevel.getD 0) < needed then .waits .tank (some needed)
  else if basinFree s.plant (u.basinLevel.getD 0) < needed then .waits .basin (some needed)
  else .fits needed

/-! ### Admission (R57, R58) -/

/-- The slot an admission binds: A when both are IDLE, otherwise the one that is (R48). -/
def State.chosenSlot (s : State) : SlotId := if s.slotA.state = .idle then .a else .b

/-- The wash context of Table 3-2 (R58, R66). -/
def State.washContext (s : State) (f : FilterNo) (ticket : Count32) : Slot :=
  let r := s.filter f
  let steps := s.programmeOf f
  let cap := s.plant.pumpCapacity
  Slot.enterSetup
    { Slot.atReset with
      filter := some f
      page := some r.programme
      ticket := ticket
      programme := steps
      areaCopy := r.area
      pumpCopy := cap
      demands := steps.map (stepDemand r.area cap)
      reservation := reservation r.area cap steps
      repeatsLeft := (steps.getD 0 StepRec.blank).repeats
      filterStale := r.stale
      startMinute := s.clock
      rateClamped := steps.any (stepClamped r.area cap)
      historyUnknown := r.historyUnknown }

/-- A timer started with a duration that may be 0, which leaves it stopped (R50). -/
def startTimer (n : Nat) : Timer := if n = 0 then none else some n

/-- Parts 1 to 4 of an admission, and the loss of presence taken at once by a slot whose filter the
Station Link does not cover (R57, R58, R113). -/
def State.admitFilter (f : FilterNo) (needed : Nat) (s : State) : State :=
  let ticket := s.admission.admissionCounter + 1
  let i := s.chosenSlot
  let x := s.washContext f ticket
  let s1 : State := { s with queue := s.queue.admitFilter f }
  let s2 := s1.filterAdmitted f
  let s3 := s2.setSlot i x
  let s4 : State :=
    { s3 with
      admission :=
        { s3.admission with
          waitReason := .noWait
          lastNeeded := some needed
          admissionCounter := ticket
          activeCount := s3.admission.activeCount + 1
          spacing := startTimer s.plant.startSpacing
          stallCount := 0 } }
  if s4.linkCovers f then s4 else s4.losePresence i

/-! ### Candidate reports and examinations (R40, R45, R46) -/

/-- The queue chooses its candidate anew. If it changed, the report is handed to the Admission Unit,
which takes it; a report of none clears the wait reason and the last needed volume (R40, R45). The
first component says whether a report was made. -/
def State.choose (s : State) : Bool × State :=
  let c := s.firstEligible
  if c = s.queue.candidate then (false, s)
  else
    let u := { s.admission with candidate := c }
    (true,
      { s with
        queue := { s.queue with candidate := c }
        admission :=
          if c.isSome then u else { u with waitReason := .noWait, lastNeeded := none } })

/-- An examination that does not admit sets the wait reason and the last needed volume (R47). -/
def AdmissionUnit.waitWith (reason : WaitReason) (needed : Option Nat) (u : AdmissionUnit) :
    AdmissionUnit :=
  { u with waitReason := reason, lastNeeded := needed }

/-- An examination, and the admissions that follow from it: each admission leads to a new choice and,
at the report, to the next examination. Two slots bound the admissions of one event by two, so three
examinations are enough (R46, R47, R57). -/
def State.examine : Nat → State → State
  | 0, s => s
  | n + 1, s =>
    match s.admission.candidate with
    | none => s
    | some f =>
      match s.verdict f with
      | .waits reason needed => { s with admission := s.admission.waitWith reason needed }
      | .fits needed =>
        if s.firstEligible = some f then
          let t := (s.admitFilter f needed).choose
          if t.1 then t.2.examine n else t.2
        else { s with admission := s.admission.waitWith .noWait (some needed) }

/-! ### Stall and forced waiting (R61, R62) -/

/-- The stall condition (R61). -/
def State.stallCondition (s : State) : Bool :=
  s.admission.candidate.isSome && decide (s.admission.activeCount < 2) &&
    decide (s.admission.activeCount < s.plant.maxConcurrent)

/-- The stall condition taken anew: the count is 0 where the condition changed, and ROTATION_STALLED
follows (R61). -/
def State.evalStall (s : State) : State :=
  let u := s.admission
  let now := s.stallCondition
  let count := if now = u.stallHolds then (if now then u.stallCount else 0) else 0
  let stalled := now && decide (s.plant.stallLimit ≤ count)
  State.handLive .rotationStalled u.rotationStalled stalled
    { s with admission :=
        { u with stallHolds := now, stallCount := count, rotationStalled := stalled } }

/-- The waited time of an entry in minutes (R62). -/
def waitedMinutes (clock : Count32) (e : Entry) : Nat := clock.toNat - e.joinMinute.toNat

/-- FORCED_WAITING taken anew from the FORCED entries (R62). -/
def State.evalForced (s : State) : State :=
  let now := s.queue.entries.any fun e =>
    e.cls == .forced && decide (s.plant.stallLimit < waitedMinutes s.clock e)
  State.handLive .forcedWaiting s.admission.forcedWaiting now
    { s with admission := { s.admission with forcedWaiting := now } }

/-- The live conditions of the Admission Unit after a change of the rotation (R61, R62). -/
def State.evalRotation (s : State) : State := s.evalForced.evalStall

/-- After an event that may change the list, the covered set, the page status, the service count or the
floor: the queue chooses anew, and a changed candidate is examined (R40, R45, R46). -/
def State.rotate (s : State) : State :=
  let t := s.choose
  (if t.1 then t.2.examine 3 else t.2).evalRotation

/-- Between two lists of the queue an entry was added or removed, or changed its class (R62). -/
def WashQueue.relisted (before after : WashQueue) : Bool :=
  allFilters.any fun f => (before.entry f).map Entry.cls != (after.entry f).map Entry.cls

/-- A change of the queue's list is taken by the Admission Unit before the queue chooses: forced waiting is
evaluated with the entries as they then stand, also with one that is admitted next (R62). -/
def State.takeList (before : WashQueue) (s : State) : State :=
  if before.relisted s.queue then s.evalForced else s

/-- After an event that acts on the queue's list: forced waiting, then the choice and what follows from it
(R40, R62). -/
def State.rotateFrom (before : WashQueue) (s : State) : State := (s.takeList before).rotate

/-- After an event that makes the Admission Unit examine its candidate whether or not the candidate
changed (R46). -/
def State.reconsider (s : State) : State := (s.choose.2.examine 3).evalRotation

end Sys2Proof.Machine
end

