-- ==== Sys2Proof/Machine/Wash.lean ====
section
/-! DEFINITION. A running wash (R70 to R88, R103 to R118): repeats, steps, the wash end with its journal
record (R145), aborts, and what the expiry of each slot timer does. -/

namespace Sys2Proof.Machine

/-! ### Journal (R145) -/

/-- The wash record of Table 4-6 that a slot hands over (R86). -/
def Slot.washRecord (x : Slot) (f : FilterNo) (seq : Count16) (now : Count32)
    (outcome : WashOutcome) (cause : Cause) : JournalRec where
  sequence := seq
  filter := f
  page := x.page
  startMinute := x.startMinute
  endMinute := now
  outcome := outcome
  cause := cause
  stepIndex := x.stepIndex
  reservation := x.reservation
  deliveredLitres := x.delivered / 10
  retriesUsed := if x.retryUsed then 1 else 0
  peakWaste := x.peakWaste
  rateClamped := x.rateClamped
  flowUnsupervised := x.flowUnsupervised
  ripenLong := x.ripenLong
  historyUnknown := x.historyUnknown

/-- The journal stores a record as its newest, removing the oldest of 32 (R145). -/
def Journal.write (r : JournalRec) (j : Journal) : Journal where
  records := (if j.records.length < 32 then j.records else j.records.drop 1) ++ [r]
  nextSequence := j.nextSequence + 1

/-! ### Wash end (R85, R86) -/

/-- The flag that a wash end latches, if any (R86 part 3). -/
def State.latchOutcome (outcome : WashOutcome) (s : State) : State :=
  match outcome with
  | .aborted => s.latchFlag .washAborted
  | .completeRipenLong => s.latchFlag .ripenLong
  | .complete => s

/-- A slot returned to IDLE: the active count falls, the queue chooses with the service count and notice
it has taken, and the candidate is examined (R46, R48, R86 part 6). -/
def State.slotFreed (s : State) : State :=
  State.reconsider
    { s with admission := { s.admission with activeCount := s.admission.activeCount - 1 } }

/-- The parts of a wash end, once grants are released and timers stopped (R86). -/
def State.endWash (i : SlotId) (outcome : WashOutcome) (cause : Cause) (s : State) : State :=
  match (s.slot i).filter with
  | none => s
  | some f =>
    let seq := s.journal.nextSequence
    let rec_ := (s.slot i).washRecord f seq s.clock outcome cause
    let s1 : State := { s with journal := s.journal.write rec_ }
    let s2 := (s1.latchOutcome outcome).filterWashEnd f outcome cause seq
    (s2.setSlot i Slot.atReset).slotFreed

/-- An abort: the request is withdrawn or the grants released, every timer stops, the wash ends ABORTED
(R84). -/
def State.abort (i : SlotId) (cause : Cause) (s : State) : State :=
  let t := (s.withdraw i).release i
  (t.setSlot i (t.slot i).stopTimers).endWash i .aborted cause

/-! ### Repeats and steps (R77 to R79) -/

/-- A step runs again: the slot enters RUN again with its grants kept, and a water holder's ramp starts
again from k0 (R78, R99). -/
def State.runAgain (i : SlotId) (s : State) : State :=
  (s.setSlot i ((s.slot i).enterRun s.plant)).redriveDemand i

/-- The slot goes on to the next step (R79). Step elapsed keeps the value of the ended repeat until RUN is
entered (log 33). -/
def State.nextStep (i : SlotId) (s : State) : State :=
  let t := s.leaveRun i
  let x : Slot := { t.slot i with stepIndex := (t.slot i).stepIndex + 1 }
  t.setSlot i { x with repeatsLeft := x.step.repeats }.enterSetup

/-- A wash that ends at the end of its last repeat of its last step (R85). -/
def State.completeWash (i : SlotId) (s : State) : State :=
  let outcome := if (s.slot i).ripenLong then .completeRipenLong else .complete
  (s.leaveRun i).endWash i outcome .noCause

/-- The end of a repeat (R77). -/
def State.endRepeat (i : SlotId) (s : State) : State :=
  let x := s.slot i
  let left := x.repeatsLeft - 1
  let t := s.setSlot i { x with repeatsLeft := left }
  if 0 < left then t.runAgain i
  else if x.stepIndex + 1 < x.programme.length then t.nextStep i
  else t.completeWash i

/-! ### Step handshake (R71, R76) -/

/-- The effect of an accepted STEP_READY (R71). -/
def State.stepReady (i : SlotId) (s : State) : State :=
  let x : Slot := { s.slot i with valveTimer := none }
  let t := s.setSlot i x
  match x.step.kind.needs with
  | some set => t.enterWaitSupply i set
  | none => t.setSlot i (x.enterRun t.plant)

/-! ### Timer expiries -/

/-- Valve timer expiry: the wash is aborted with VALVE_TIMEOUT (R70). -/
def State.valveExpiry (i : SlotId) (s : State) : State :=
  if (s.slot i).valveTimer.isSome then s.abort i .valveTimeout else s

/-- Supply-wait expiry: the request is withdrawn and the wash aborted with SUPPLY_WAIT (R111). -/
def State.supplyWaitExpiry (i : SlotId) (s : State) : State :=
  if (s.slot i).supplyWait.isSome then s.abort i .supplyWait else s

/-- Step timer expiry (R75); step elapsed then equals the duration (R74). -/
def State.stepExpiry (i : SlotId) (s : State) : State :=
  let x := s.slot i
  if x.stepTimer.isSome then
    let y : Slot := { x with stepTimer := none, stepElapsed := x.step.duration }
    match x.step.kind with
    | .drain => (s.setSlot i y).abort i .drainTimeout
    | .waste => (s.setSlot i { y with ripenLong := true, clearHold := .stopped }).endRepeat i
    | .air | .airWater | .water | .settle => (s.setSlot i y).endRepeat i
  else s

/-- Clear-hold expiry: the step timer stops and the repeat ends (R82). A frozen hold does not expire
(R81). -/
def State.clearHoldExpiry (i : SlotId) (s : State) : State :=
  match (s.slot i).clearHold with
  | .running _ =>
    (s.setSlot i { s.slot i with stepTimer := none, clearHold := .stopped }).endRepeat i
  | .stopped | .frozen _ => s

/-- Ramp timer expiry: k rises by 1, the demand is recomputed, and the timer starts again below 16
(R99, R100). -/
def State.rampExpiry (i : SlotId) (s : State) : State :=
  let x := s.slot i
  if x.rampTimer.isSome then
    let k := x.rampK + 1
    (s.setSlot i
      { x with rampK := k, rampTimer := if k < 16 then some s.plant.rampInterval else none }
      ).redriveDemand i
  else s

/-- The resettle time, fixed at 30 s (R103). -/
def resettleSeconds : Nat := 30

/-- Shortfall timer expiry: the slot leaves RUN, SUPPLY_SHORT is latched, and the slot resettles once or
the wash is aborted (R108, R109). -/
def State.shortfallExpiry (i : SlotId) (s : State) : State :=
  if (s.slot i).shortfall.isSome then
    let t := (s.leaveRun i).latchFlag .supplyShort
    let x := t.slot i
    if t.plant.shortfallPolicy = .retryOnce ∧ x.retryUsed = false then
      t.setSlot i { x with retryUsed := true, state := .resettle, resettle := some resettleSeconds }
    else t.abort i .supplyShort
  else s

/-- Resettle timer expiry: the slot asks again for the step's whole set (R110). -/
def State.resettleExpiry (i : SlotId) (s : State) : State :=
  let x := s.slot i
  if x.resettle.isSome then
    let t := s.setSlot i { x with resettle := none }
    match x.step.kind.needs with
    | some set => t.enterWaitSupply i set
    | none => t
  else s

/-- Halt timer expiry: the wash is aborted with PORT_LAPSED (R117). -/
def State.haltExpiry (i : SlotId) (s : State) : State :=
  if (s.slot i).haltTimer.isSome then s.abort i .portLapsed else s

/-- Spacing timer expiry: the timer stops and an examination follows (R50). -/
def State.spacingExpiry (s : State) : State :=
  if s.admission.spacing.isSome then
    State.reconsider { s with admission := { s.admission with spacing := none } }
  else s

/-! ### The minute event (R161) -/

/-- The Filter Table's part of a minute event, with the queue's choice that follows (R17, R40). -/
def State.minuteAtTable (s : State) : State := s.filtersMinute.rotateFrom s.queue

/-- The Admission Unit's part of a minute event: the stall count, then the live conditions (R61,
R62). -/
def State.minuteAtAdmission (s : State) : State :=
  let u := s.admission
  let count := if s.stallCondition && u.stallHolds then min 255 (u.stallCount + 1) else u.stallCount
  State.evalRotation { s with admission := { u with stallCount := count } }

/-- The minute event: the seconds count wraps, the plant clock advances, and the Filter Table and the
Admission Unit take the minute, each as an event on its own state (R161). -/
def State.minute (s : State) : State :=
  eitherOrder State.minuteAtTable State.minuteAtAdmission
    { s with seconds := 0, clock := s.clock + 1 }

end Sys2Proof.Machine
end

