-- ==== Sys2Proof/Machine/SupplyMonitor.lean ====
section
/-! DEFINITION. The Supply Monitor (R119 to R130): samples, scaling, signal fault, windows, extremes,
live conditions, REFILL, volume crediting, and what a completion or a fault hands to the neighbouring
blocks; with the flow comparison (R105) and the tank low-low abort (R112) that follow from it. -/

namespace Sys2Proof.Machine

/-! ### What the arbiter takes (R92, R106, R112) -/

/-- TANK_LOW at the arbiter: becoming true sets the bar and aborts a water holder's wash; becoming false
clears it and a grant pass follows (R92, R112). -/
def State.tankLowAtArbiter (value : Bool) (s : State) : State :=
  let t : State := { s with arbiter := { s.arbiter with tankLow := value } }
  if value then
    match t.arbiter.waterHolder with
    | some i => t.abort i .tankLow
    | none => t
  else t.grantPass

/-- BASIN_FULL at the arbiter (R92, R96). -/
def State.basinFullAtArbiter (value : Bool) (s : State) : State :=
  let t : State := { s with arbiter := { s.arbiter with basinFull := value } }
  if value then t else t.grantPass

/-- A tank channel fault at the arbiter (R92). -/
def State.tankFaultAtArbiter (value : Bool) (s : State) : State :=
  let t : State := { s with arbiter := { s.arbiter with tankFault := value } }
  if value then t else t.grantPass

/-- A flow channel fault at the arbiter; at entry a slot holding water has its supervision suspended and
its FLOW_UNSUPERVISED flag set (R92, R106). -/
def State.flowFaultAtArbiter (value : Bool) (s : State) : State :=
  let t : State := { s with arbiter := { s.arbiter with flowFault := value } }
  if value then
    match t.arbiter.waterHolder with
    | some i => t.setSlot i { t.slot i with shortfall := none, flowUnsupervised := true }
    | none => t
  else t.grantPass

/-- A channel's entry into or exit from signal fault at the arbiter; the basin's is not handed on
(R125). -/
def State.faultAtArbiter (c : Channel) (value : Bool) (s : State) : State :=
  match c with
  | .tank => s.tankFaultAtArbiter value
  | .flow => s.flowFaultAtArbiter value
  | .basin => s

/-! ### What the Admission Unit takes (R46, R51) -/

/-- The Admission Unit's view of a channel. -/
def AdmissionUnit.view (u : AdmissionUnit) : Channel → ChannelView
  | .tank => u.tankView
  | .flow => u.flowView
  | .basin => u.basinView

/-- The Admission Unit with its view of a channel replaced. -/
def AdmissionUnit.setView (c : Channel) (v : ChannelView) (u : AdmissionUnit) : AdmissionUnit :=
  match c with
  | .tank => { u with tankView := v }
  | .flow => { u with flowView := v }
  | .basin => { u with basinView := v }

/-- A channel enters signal fault (its fresh item is cleared) or leaves it; an examination follows
(R46, R51). -/
def State.faultAtAdmission (c : Channel) (value : Bool) (s : State) : State :=
  let v := s.admission.view c
  let v1 : ChannelView := ⟨value, if value then false else v.fresh⟩
  State.reconsider { s with admission := s.admission.setView c v1 }

/-- A completed tank or basin window: the new level, the fresh item and primed; an examination follows
(R46, R51). -/
def State.levelAtAdmission (c : Channel) (level : Nat) (s : State) : State :=
  let u := s.admission.setView c ⟨(s.admission.view c).fault, true⟩
  let u1 : AdmissionUnit :=
    match c with
    | .tank => { u with tankLevel := some level }
    | .basin => { u with basinLevel := some level }
    | .flow => u
  State.reconsider { s with admission := { u1 with primed := s.monitor.primed } }

/-- A flow completion report: it sets the FLOW fresh item, and an examination follows where that was
clear (R46, R51, R122). -/
def State.flowAtAdmission (s : State) : State :=
  let v := s.admission.flowView
  if v.fresh then s
  else State.reconsider { s with admission := { s.admission with flowView := ⟨v.fault, true⟩ } }

/-! ### Flow supervision (R104, R105) -/

/-- The shortfall threshold (R105). -/
def State.flowThreshold (s : State) : Nat := s.arbiter.waterDemand * s.plant.lowFlow / 100

/-- The flow average reaches the slot that holds the water grant: below the threshold it starts a stopped
shortfall timer, at or above it stops it, while supervision is in force (R104, R105). -/
def State.compareFlow (average : Nat) (s : State) : State :=
  match s.monitor.waterView with
  | none => s
  | some i =>
    let x := s.slot i
    if x.state = .run ∧ x.step.kind.isWater = true ∧ s.arbiter.flowFault = false then
      s.setSlot i
        { x with shortfall :=
            if average < s.flowThreshold then
              (if x.shortfall.isSome then x.shortfall else some s.plant.flowGrace)
            else none }
    else s

/-! ### Conditions drawn from the averages (R123 to R126) -/

/-- TANK_LOW as the tank average and the level in force give it (R124). -/
def tankLowNow (q : PlantPage) (r : ChannelRec) : Bool :=
  r.average.any fun v => decide (v ≤ q.tankLowLow)

/-- BASIN_FULL as the basin average and the maximum in force give it (R124). -/
def basinFullNow (q : PlantPage) (r : ChannelRec) : Bool :=
  r.average.any fun v => decide (q.basinMaximum ≤ v)

/-- REFILL as the tank average and the two levels give it, from the state it has (R125, R130). -/
def refillNow (q : PlantPage) (r : ChannelRec) (was : Bool) : Bool :=
  match r.average with
  | none => false
  | some v => if v < q.refillOn then true else if q.refillOff ≤ v then false else was

/-- TANK_LOW is evaluated; a change is handed to the arbiter and the Status and Alert Unit (R124). -/
def State.evalTankLow (s : State) : State :=
  let was := s.monitor.tankLow
  let now := tankLowNow s.plant s.monitor.tank
  if was = now then s
  else
    let t : State := { s with monitor := { s.monitor with tankLow := now } }
    (t.setLive .tankLow now).tankLowAtArbiter now

/-- BASIN_FULL is evaluated; a change is handed on (R124). -/
def State.evalBasinFull (s : State) : State :=
  let was := s.monitor.basinFull
  let now := basinFullNow s.plant s.monitor.basin
  if was = now then s
  else
    let t : State := { s with monitor := { s.monitor with basinFull := now } }
    (t.setLive .basinFull now).basinFullAtArbiter now

/-- REFILL is evaluated (R125). -/
def State.evalRefill (s : State) : State :=
  { s with monitor :=
      { s.monitor with refill := refillNow s.plant s.monitor.tank s.monitor.refill } }

/-- SIGNAL_FAULT is evaluated: at least one channel has fault set (R125). -/
def State.evalSignalFault (s : State) : State :=
  let was := s.monitor.signalFault
  let now := s.monitor.tank.fault || s.monitor.flow.fault || s.monitor.basin.fault
  State.handLive .signalFault was now { s with monitor := { s.monitor with signalFault := now } }

/-- The extreme of a channel after a new average (R126). -/
def newExtreme (c : Channel) (extreme : Option Nat) (average : Nat) : Nat :=
  match extreme, c with
  | none, _ => average
  | some e, .tank => min e average
  | some e, .flow => max e average
  | some e, .basin => max e average

/-! ### Windows (R122) -/

/-- A channel record after a completed window: average, empty window, extreme (R122 parts 1 to 3). -/
def ChannelRec.complete (c : Channel) (length sum : Nat) (r : ChannelRec) : ChannelRec :=
  let average := sum / length
  { r with
    average := some average
    windowCount := 0
    windowSum := 0
    extreme := some (newExtreme c r.extreme average) }

/-- Primed once a tank average and a basin average exist (R123). -/
def Monitor.prime (m : Monitor) : Monitor :=
  { m with primed := m.primed || (m.tank.average.isSome && m.basin.average.isSome) }

/-- A window completion: the channel's record, its conditions, and what is handed on (R122, Table
7-5). Where the tank average makes TANK_LOW true, the Admission Unit and the arbiter take their parts in
either order. -/
def State.completeWindow (c : Channel) (sum : Nat) (s : State) : State :=
  let length := 2 ^ (s.plant.channelCfg c).exponent
  let r := (s.monitor.channel c).complete c length sum
  let t := s.setChannel c r
  let average := sum / length
  match c with
  | .tank =>
    let t1 : State := State.evalRefill { t with monitor := t.monitor.prime }
    eitherOrder (State.levelAtAdmission .tank average) State.evalTankLow t1
  | .basin =>
    let t1 : State := { t with monitor := t.monitor.prime }
    (t1.levelAtAdmission .basin average).evalBasinFull
  | .flow => t.flowAtAdmission.compareFlow average

/-- A good sample enters the window, and completes it if it is the last one (R122). -/
def State.addToWindow (c : Channel) (v : Nat) (s : State) : State :=
  let r := s.monitor.channel c
  let length := 2 ^ (s.plant.channelCfg c).exponent
  if r.windowCount + 1 < length then
    s.setChannel c
      { r with windowCount := r.windowCount + 1, windowSum := r.windowSum + v }
  else s.completeWindow c (r.windowSum + v)

/-! ### Volume (R87, R128, R129) -/

/-- The largest delivered count, in decilitres (R87). -/
def deliveredMax : Nat := 4294967295

/-- A delivered count after a credit (R87). -/
def Slot.credit (v : Nat) (x : Slot) : Slot :=
  { x with delivered := min deliveredMax (x.delivered + v) }

/-- The totalizer advanced by a good flow sample of `v` decilitres (R129). -/
def Monitor.totalize (v : Nat) (m : Monitor) : Monitor :=
  let sum := m.totalRemainder + v
  let litres := m.totalLitres.toNat + sum / 10
  { m with
    totalLitres := BitVec.ofNat 32 litres
    totalRemainder := sum % 10
    rollover := if 4294967295 < litres then m.rollover + 1 else m.rollover
    sampleCount := m.sampleCount + 1 }

/-- A good flow sample's volume is credited once, and the totalizer advances by it (R128). -/
def State.creditFlow (v : Nat) (s : State) : State :=
  let t :=
    match s.monitor.waterView with
    | some i => s.setSlot i ((s.slot i).credit v)
    | none =>
      { s with monitor :=
          { s.monitor with unattributed := s.monitor.unattributed + BitVec.ofNat 32 v } }
  { t with monitor := t.monitor.totalize v }

/-! ### Samples (R120, R121) -/

/-- The scaled value of a good reading before it is clamped (R120). -/
def scaleReading (g : ChannelCfg) (reading : BitVec 12) : Nat := reading.toNat * g.span / 4095 + g.zero

/-- A good sample before it enters the window: scaled, and credited for FLOW (R120, R128). -/
def State.scaleAndCredit (c : Channel) (reading : BitVec 12) (s : State) : State :=
  let v := scaleReading (s.plant.channelCfg c) reading
  let t := s.setChannel c
    { s.monitor.channel c with
      lastScaled := some (min 9999 v), lastClamped := decide (9999 < v) }
  if c = .flow then t.creditFlow (min 9999 v) else t

/-- A channel's entry into or exit from signal fault is handed on (R125). -/
def State.handFault (c : Channel) (value : Bool) (s : State) : State :=
  ((s.evalSignalFault).faultAtArbiter c value).faultAtAdmission c value

/-- A fault sample (R121). -/
def State.faultSample (c : Channel) (s : State) : State :=
  let r := s.monitor.channel c
  if r.fault then s
  else
    State.handFault c true
      (s.setChannel c
        { r with
          fault := true
          faultEntries := r.faultEntries + 1
          windowCount := 0
          windowSum := 0 })

/-- A good sample once it is scaled and credited: it enters the window (R122). -/
def State.intoWindow (c : Channel) (reading : BitVec 12) (s : State) : State :=
  s.addToWindow c (min 9999 (scaleReading (s.plant.channelCfg c) reading))

/-- A good sample of a channel that is not in signal fault (R120, R122, R128). -/
def State.goodSample (c : Channel) (reading : BitVec 12) (s : State) : State :=
  (s.scaleAndCredit c reading).intoWindow c reading

/-- The first good sample in signal fault: the channel leaves it and hands the exit on, and the sample is
treated as any good one (R121, R125). Left open, and free, are whether a FLOW sample is credited before or
after what its exit brings (R128, log 34), and whether the exit of TANK or BASIN reaches the other blocks before
or after a window that the same sample completes (log 35). At FLOW supervision is in force again from the exit,
so that a window of one which the sample completes is compared (R106). -/
def State.endFault (c : Channel) (reading : BitVec 12) (s : State) : State :=
  let t := s.setChannel c { s.monitor.channel c with fault := false }
  match c with
  | .flow =>
    (eitherOrder (State.handFault c false) (State.scaleAndCredit c reading) t).intoWindow c reading
  | .tank | .basin => eitherOrder (State.handFault c false) (State.goodSample c reading) t

/-- A sample: the reading is stored as last raw, and is a fault sample or a good one; a good one may end a
signal fault (R120, R121, R122). -/
def State.sample (c : Channel) (reading : BitVec 12) (s : State) : State :=
  let t := s.setChannel c { s.monitor.channel c with lastRaw := some reading }
  if goodReading reading then
    if (t.monitor.channel c).fault then t.endFault c reading else t.goodSample c reading
  else t.faultSample c

/-- The reading is the good sample that completes the channel's window (R122). -/
def State.completes (c : Channel) (reading : BitVec 12) (s : State) : Bool :=
  goodReading reading &&
    decide (2 ^ (s.plant.channelCfg c).exponent ≤ (s.monitor.channel c).windowCount + 1)

/-! ### Plant page commit (R130) -/

/-- A channel whose settings changed has its window discarded (R130). -/
def ChannelRec.onCommit (old new : ChannelCfg) (r : ChannelRec) : ChannelRec :=
  if old = new then r else { r with windowCount := 0, windowSum := 0 }

/-- TANK_LOW and REFILL at a plant page commit completion, for a TANK channel not in fault (R130). -/
def State.commitTank (s : State) : State :=
  if s.monitor.tank.fault then s else s.evalRefill.evalTankLow

/-- BASIN_FULL at a plant page commit completion, for a BASIN channel not in fault (R130). -/
def State.commitBasin (s : State) : State := if s.monitor.basin.fault then s else s.evalBasinFull

/-- The monitor at a plant page commit completion: windows discarded where settings changed, then
TANK_LOW, REFILL and BASIN_FULL evaluated from the held averages of channels not in fault (R130). Which of
TANK_LOW and BASIN_FULL reaches the arbiter first is left open, and free (log 26). -/
def State.monitorCommit (old : PlantPage) (s : State) : State :=
  let q := s.plant
  let m := s.monitor
  eitherOrder State.commitTank State.commitBasin
    { s with monitor :=
        { m with
          tank := m.tank.onCommit old.tankCfg q.tankCfg
          flow := m.flow.onCommit old.flowCfg q.flowCfg
          basin := m.basin.onCommit old.basinCfg q.basinCfg } }

end Sys2Proof.Machine
end

