-- ==== Sys2Proof/Machine/Store.lean ====
section
/-! DEFINITION. The Page Store (R132 to R144): opening, writing and closing the staging page, the checks
of a commit, its start and its completion, and what a plant page completion does in the other blocks
(R142). -/

namespace Sys2Proof.Machine

/-! ### Staging (R135 to R137) -/

/-- The page a staging page stands for. -/
def Staged.page : Staged → PageId
  | .programme g _ _ => .programme g
  | .plant _ => .plant

/-- The page a commit writes. -/
def CommitTarget.page : CommitTarget → PageId
  | .programme g _ => .programme g
  | .plant _ => .plant

/-- The page of a number, 0 to 8 (R135). -/
def PageId.ofNumber (n : Nat) : Option PageId :=
  if h : n < 8 then some (.programme ⟨n, h⟩) else if n = 8 then some .plant else none

/-- The number of a page (08, introduction). -/
def PageId.number : PageId → Nat
  | .programme g => g.val
  | .plant => 8

/-- Twelve staged positions: the loaded step records, then blank ones (R135). -/
def stagedSteps (steps : List StepRec) : List StepRec :=
  steps ++ List.replicate (12 - steps.length) StepRec.blank

/-- What EDIT_OPEN loads: the stored content of a VALID page, the factory defaults of an INVALID one
(R135). -/
def PageStore.load (t : PageStore) : PageId → Staged
  | .programme g =>
    let steps := if t.programmes[g].valid then t.programmes[g].steps else factoryProgramme
    .programme g steps.length (stagedSteps steps)
  | .plant => .plant (if t.plant.valid then t.plant.content else PlantPage.factory)

/-- The latch and the staging page are released together (R137). -/
def PageStore.releaseLatch (t : PageStore) : PageStore := { t with latch := none, staging := none }

/-- The latch is released if the port holds it (R137). -/
def PageStore.releaseLatchOf (p : Port) (t : PageStore) : PageStore :=
  if t.latch = some p then t.releaseLatch else t

/-- An owed COMMIT_DONE is dropped if it is owed to the port (R141). -/
def PageStore.dropDoneOf (p : Port) (t : PageStore) : PageStore :=
  match t.owedDone with
  | some (p', _) => if p' = p then { t with owedDone := none } else t
  | none => t

/-! ### EDIT_WRITE (R136, R159) -/

/-- One item of an EDIT_WRITE: identifier, index, value. -/
structure EditItem where
  ident : Nat
  index : Nat
  value : Nat
deriving DecidableEq, Repr

/-- A value inside a range. -/
def inRange (lo hi v : Nat) : Bool := decide (lo ≤ v) && decide (v ≤ hi)

/-- A value that is 0 or inside a range (R136). -/
def zeroOr (lo hi v : Nat) : Bool := v == 0 || inRange lo hi v

/-- A kind has a rate (Table 4-1). -/
def StepKind.hasRate (k : StepKind) : Bool := k.isWater

/-- A kind has a ripen limit and a clear hold (Table 4-1). -/
def StepKind.hasClear (k : StepKind) : Bool := k == .waste

/-- The kind of a step is written, and the fields without a meaning for it become 0 (R136). -/
def StepRec.setKind (k : StepKind) (x : StepRec) : StepRec :=
  { x with
    kind := k
    rate := if k.hasRate then x.rate else 0
    ripenLimit := if k.hasClear then x.ripenLimit else 0
    clearHold := if k.hasClear then x.clearHold else 0 }

/-- A step field is written, if the value is accepted (R136). -/
def StepRec.write (ident value : Nat) (x : StepRec) : Option StepRec :=
  match ident with
  | 2 => (StepKind.ofCode value).map fun k => x.setKind k
  | 3 => if inRange 10 1800 value then some { x with duration := value } else none
  | 4 =>
    if inRange 0 900 value && (value == 0 || x.kind.hasRate) then some { x with rate := value }
    else none
  | 5 => if inRange 1 8 value then some { x with repeats := value } else none
  | 6 =>
    if zeroOr 20 1000 value && (value == 0 || x.kind.hasClear) then
      some { x with ripenLimit := value }
    else none
  | 7 =>
    if zeroOr 30 600 value && (value == 0 || x.kind.hasClear) then
      some { x with clearHold := value }
    else none
  | _ => none

/-- One item against a staged programme: identifier 1 is the step count, 2 to 7 are the fields of a step
position 0 to 11 (R136, R159). -/
def writeProgramme (it : EditItem) (g : Fin 8) (count : Nat) (steps : List StepRec) :
    Option Staged :=
  if it.ident = 1 then
    if it.index = 0 ∧ inRange 1 12 it.value then some (.programme g it.value steps) else none
  else if it.index < 12 then
    ((steps.getD it.index StepRec.blank).write it.ident it.value).map fun x =>
      .programme g count (steps.set it.index x)
  else none

/-- A per-filter field of the plant page is written (rows 1 to 6 of Table 8-3). -/
def FilterCfg.write (ident value : Nat) (x : FilterCfg) : Option FilterCfg :=
  match ident with
  | 1 => if value ≤ 1 then some { x with present := value == 1 } else none
  | 2 => if inRange 50 3000 value then some { x with area := value } else none
  | 3 => if h : value < 8 then some { x with programme := ⟨value, h⟩ } else none
  | 4 => if inRange 100 3000 value then some { x with headlossLimit := value } else none
  | 5 => if inRange 50 5000 value then some { x with turbidityLimit := value } else none
  | 6 => if inRange 60 10080 value then some { x with runLimit := value } else none
  | _ => none

/-- A channel field of the plant page is written (rows 26 to 28 of Table 8-3). -/
def ChannelCfg.write (ident value : Nat) (x : ChannelCfg) : Option ChannelCfg :=
  match ident with
  | 26 => if inRange 0 6 value then some { x with exponent := value } else none
  | 27 => if inRange 0 9999 value then some { x with zero := value } else none
  | 28 => if inRange 1 9999 value then some { x with span := value } else none
  | _ => none

/-- A due threshold is written by its member number (row 7 of Table 8-3). -/
def PlantPage.writeThreshold (index value : Nat) (q : PlantPage) : Option PlantPage :=
  if inRange 64 255 value then
    match index with
    | 0 => some { q with thresholdNormal := value }
    | 1 => some { q with thresholdElevated := value }
    | 2 => some { q with thresholdFlood := value }
    | _ => none
  else none

/-- A channel field is written by its member number (rows 26 to 28 of Table 8-3). -/
def PlantPage.writeChannel (ident index value : Nat) (q : PlantPage) : Option PlantPage :=
  match index with
  | 0 => (q.tankCfg.write ident value).map fun x => { q with tankCfg := x }
  | 1 => (q.flowCfg.write ident value).map fun x => { q with flowCfg := x }
  | 2 => (q.basinCfg.write ident value).map fun x => { q with basinCfg := x }
  | _ => none

/-- The alert mode of a value (rows 34 and 36 of Table 8-3). -/
def AlertMode.ofCode : Nat → Option AlertMode
  | 0 => some .latched
  | 1 => some .live
  | _ => none

/-- A single-valued row of the plant page is written (Table 8-3, rows 8 to 25 and 29 to 36). The lock mask
takes the value with bit g for page g (log 32). -/
def PlantPage.writeScalar (ident v : Nat) (q : PlantPage) : Option PlantPage :=
  match ident with
  | 8 => if inRange 1 60 v then some { q with staleLimit := v } else none
  | 9 => if inRange 0 16 v then some { q with floor := v } else none
  | 10 => if inRange 1 2 v then some { q with maxConcurrent := v } else none
  | 11 => if inRange 0 3600 v then some { q with startSpacing := v } else none
  | 12 => if inRange 50 9999 v then some { q with pumpCapacity := v } else none
  | 13 => if inRange 100 20000 v then some { q with tankArea := v } else none
  | 14 => if inRange 0 9999 v then some { q with reserveLevel := v } else none
  | 15 => if inRange 100 20000 v then some { q with basinArea := v } else none
  | 16 => if inRange 0 9999 v then some { q with basinMaximum := v } else none
  | 17 => if inRange 5 240 v then some { q with stallLimit := v } else none
  | 18 => if inRange 5 300 v then some { q with valveTravel := v } else none
  | 19 => if inRange 1 16 v then some { q with rampStart := v } else none
  | 20 => if inRange 1 10 v then some { q with rampInterval := v } else none
  | 21 => if inRange 50 95 v then some { q with lowFlow := v } else none
  | 22 => if inRange 5 60 v then some { q with flowGrace := v } else none
  | 23 =>
    match v with
    | 0 => some { q with shortfallPolicy := .retryOnce }
    | 1 => some { q with shortfallPolicy := .latch }
    | _ => none
  | 24 => if inRange 60 1800 v then some { q with supplyWaitLimit := v } else none
  | 25 => if inRange 30 900 v then some { q with haltLimit := v } else none
  | 29 => if inRange 0 9999 v then some { q with tankLowLow := v } else none
  | 30 => if inRange 0 9999 v then some { q with refillOn := v } else none
  | 31 => if inRange 0 9999 v then some { q with refillOff := v } else none
  | 32 => if v < 256 then some { q with lockMask := BitVec.ofNat 8 v } else none
  | 33 => if v < 1024 then some { q with alert0Mask := BitVec.ofNat 10 v } else none
  | 34 => (AlertMode.ofCode v).map fun m => { q with alert0Mode := m }
  | 35 => if v < 1024 then some { q with alert1Mask := BitVec.ofNat 10 v } else none
  | 36 => (AlertMode.ofCode v).map fun m => { q with alert1Mode := m }
  | _ => none

/-- One item against a staged plant page: the identifier is the row of Table 8-3, the index the filter,
the member, or 0 (R136, R159). -/
def PlantPage.write (it : EditItem) (q : PlantPage) : Option PlantPage :=
  if it.ident ≤ 6 then
    if h : it.index < 16 then
      ((q.filters[it.index]).write it.ident it.value).map fun x =>
        { q with filters := q.filters.set it.index x }
    else none
  else if it.ident = 7 then q.writeThreshold it.index it.value
  else if 26 ≤ it.ident ∧ it.ident ≤ 28 then q.writeChannel it.ident it.index it.value
  else if it.index = 0 then q.writeScalar it.ident it.value
  else none

/-- One item against the staging page (R136). -/
def Staged.write (it : EditItem) : Staged → Option Staged
  | .programme g count steps => writeProgramme it g count steps
  | .plant q => (q.write it).map .plant

/-- A list of items, each against the staging page as the earlier ones left it; none if any is refused
(R136). -/
def Staged.writeAll : List EditItem → Staged → Option Staged
  | [], x => some x
  | it :: its, x => (x.write it).bind fun y => y.writeAll its

/-! ### COMMIT (R138 to R140) -/

/-- The consistency checks of a staged programme (R139). -/
def programmeConsistent (steps : List StepRec) : Bool :=
  steps.all (fun x => !x.kind.isWater || inRange 1 900 x.rate) &&
  steps.all (fun x => x.kind != .waste || (inRange 20 1000 x.ripenLimit && inRange 30 600 x.clearHold)) &&
  steps.dropLast.all (fun x => x.kind != .waste) &&
  steps.any (fun x => x.kind.isWater)

/-- The consistency checks of a staged plant page (R139). -/
def PlantPage.consistent (q : PlantPage) : Bool :=
  decide (q.thresholdElevated ≤ q.thresholdNormal) &&
  decide (q.thresholdFlood ≤ q.thresholdElevated) &&
  decide (q.tankLowLow < q.reserveLevel) &&
  decide (q.refillOn < q.refillOff)

/-- The checks of R139 on a staging page; positions at or beyond the step count are not checked. -/
def Staged.consistent : Staged → Bool
  | .programme _ count steps => programmeConsistent (steps.take count)
  | .plant q => q.consistent

/-- What a commit takes over from the staging page: positions beyond the step count are not stored
(R132, R140). -/
def Staged.target : Staged → CommitTarget
  | .programme g count steps => .programme g (steps.take count)
  | .plant q => .plant q

/-- The staged page is a programme page locked by the plant page in force: bit g of the lock mask, from the
least significant, stands for page g (R138, log 32). -/
def Staged.locked (q : PlantPage) : Staged → Bool
  | .programme g _ _ => q.lockMask.getLsbD g.val
  | .plant _ => false

/-- The commit marker of the target page is set (R140). -/
def PageStore.mark (t : PageStore) : PageId → PageStore
  | .programme g => { t with programmes := t.programmes.set g { t.programmes[g] with marker := true } }
  | .plant => { t with plant := { t.plant with marker := true } }

/-- The page status at a commit start, handed to the queue (R140). -/
def WashQueue.commitStarts (q : WashQueue) : PageId → WashQueue
  | .programme g => { q with pageStatus := q.pageStatus.set g .committing }
  | .plant => { q with plantCommitting := true }

/-- The start of a commit as one event (R140). -/
def State.startCommit (p : Port) (x : Staged) (s : State) : State :=
  State.rotate
    { s with
      store := { (s.store.mark x.page).releaseLatch with commit := some (x.target, p) }
      queue := s.queue.commitStarts x.page }

/-! ### Completion (R141, R142) -/

/-- The target page takes the committed content with its check value, the marker is cleared and the page
is VALID (R141 parts 1 and 2). -/
def PageStore.writeTarget (t : PageStore) : CommitTarget → PageStore
  | .programme g steps =>
    { t with programmes := t.programmes.set g ⟨steps, programmeCheck steps, false, true⟩ }
  | .plant q => { t with plant := ⟨q, plantCheck q, false, true⟩ }

/-- Live PAGE_INVALID is evaluated; a change is handed to the Status and Alert Unit (R141 part 3). -/
def State.evalPageInvalid (s : State) : State :=
  let was := s.store.pageInvalid
  let now := s.store.anyInvalid
  State.handLive .pageInvalid was now { s with store := { s.store with pageInvalid := now } }

/-- The Page Store's own part of a completion (R141). -/
def State.storeCompletes (target : CommitTarget) (p : Port) (s : State) : State :=
  let t := State.evalPageInvalid
    { s with store := { s.store.writeTarget target with commit := none } }
  if (t.port p).attached then
    { t with store := { t.store with owedDone := some (p, target.page) } }
  else t

/-- The Wash Queue's and the Filter Table's parts of a plant page completion, forced waiting under the new
stall limit (log 26), the candidate that follows and its examination (R10, R11, R39, R40, R60, R62, R142). -/
def State.tableCommit (s : State) : State :=
  (State.filtersCommit
      { s with queue := { s.queue with plantCommitting := false, floor := s.plant.floor } }
    ).evalForced.reconsider

/-- The alert lines evaluated with the masks and modes in force (R149). -/
def State.evalAlerts (s : State) : State := { s with status := s.status.evaluate s.plant }

/-- A plant page completion in the other blocks: the table, queue and Admission Unit, and the monitor with
the arbiter, in either order; then the alert lines under the new masks and modes (R142). -/
def State.plantCompletes (old : PlantPage) (s : State) : State :=
  (eitherOrder State.tableCommit (State.monitorCommit old) s).evalAlerts

/-- A programme page completion in the other blocks: the page is USABLE at the queue, which chooses anew
(R141). -/
def State.programmeCompletes (g : Fin 8) (s : State) : State :=
  State.rotate { s with queue := { s.queue with pageStatus := s.queue.pageStatus.set g .usable } }

/-- The completion of the commit in progress (R141, R142). -/
def State.completeCommit (s : State) : State :=
  match s.store.commit with
  | none => s
  | some (target, p) =>
    let old := s.plant
    let t := s.storeCompletes target p
    match target with
    | .programme g _ => t.programmeCompletes g
    | .plant _ => t.plantCompletes old

/-! ### Interrupted commit (R143) -/

/-- The page a commit was writing when a reset cut it short: the marker stays set, what the page then
holds is not known (free values, log 10), and the page is INVALID, as the revalidation at the end of the
reset finds it (R133). -/
def PageStore.tear (n : Nat) (t : PageStore) : PageStore :=
  match t.commit with
  | none => t
  | some (.programme g _, _) =>
    let torn : ProgrammePage := ⟨Config.tornProgramme n, Config.tornCheck n, true, false⟩
    { t with programmes := t.programmes.set g torn }
  | some (.plant _, _) =>
    { t with plant := ⟨Config.tornPlant n, Config.tornCheck n, true, false⟩ }

/-- The Page Store during a reset: pages kept, but for a torn one, and the rest at reset values (R132,
R143). -/
def PageStore.held (n : Nat) (t : PageStore) : PageStore :=
  { t.tear n with latch := none, staging := none, commit := none, owedDone := none }

end Sys2Proof.Machine
end

