-- ==== Sys2Proof/Machine/Operands.lean ====
section
/-! DEFINITION. The request kinds with their codes, roles, lengths and answer sizes (Tables 10-5 and
10-7), the result codes (Table 10-4), and the reading of request fields from a payload (R159). -/

namespace Sys2Proof.Machine

/-- The request kinds of Table 10-5. -/
inductive ReqKind where
  | attach | detach | ping | report | filterMode | washRequest | washWithdraw | washAbort
  | stepReady | stepDone | stepFault | readFilter | readQueue | readSlots | readMonitor
  | readJournal | readPage | readStatus | setClass | setPause | clockSet | clearStatus | peakReset
  | editOpen | editWrite | editClose | commit
deriving DecidableEq, Repr, Inhabited

/-- All request kinds. -/
def allKinds : List ReqKind :=
  [.attach, .detach, .ping, .report, .filterMode, .washRequest, .washWithdraw, .washAbort,
   .stepReady, .stepDone, .stepFault, .readFilter, .readQueue, .readSlots, .readMonitor,
   .readJournal, .readPage, .readStatus, .setClass, .setPause, .clockSet, .clearStatus, .peakReset,
   .editOpen, .editWrite, .editClose, .commit]

/-- The kind byte of a request (Table 10-5). -/
def ReqKind.code : ReqKind → Byte
  | .attach => 0x01 | .detach => 0x02 | .ping => 0x03
  | .report => 0x10 | .filterMode => 0x11 | .washRequest => 0x12 | .washWithdraw => 0x13
  | .washAbort => 0x14
  | .stepReady => 0x18 | .stepDone => 0x19 | .stepFault => 0x1A
  | .readFilter => 0x20 | .readQueue => 0x21 | .readSlots => 0x22 | .readMonitor => 0x23
  | .readJournal => 0x24 | .readPage => 0x25 | .readStatus => 0x26
  | .setClass => 0x30 | .setPause => 0x31 | .clockSet => 0x32 | .clearStatus => 0x33
  | .peakReset => 0x34
  | .editOpen => 0x38 | .editWrite => 0x39 | .editClose => 0x3A | .commit => 0x3B

/-- A kind byte names a request of Table 10-5. -/
def knownKind (b : Byte) : Bool := allKinds.any fun k => k.code == b

/-- The payload length that Table 10-5 gives a kind. -/
def ReqKind.lengthOk (k : ReqKind) (n : Nat) : Bool :=
  match k with
  | .attach => n == 4
  | .detach | .ping | .readSlots | .readMonitor | .readStatus | .peakReset | .editClose
  | .commit => n == 0
  | .report => n == 6
  | .filterMode => n == 5
  | .washRequest | .stepReady | .stepDone | .stepFault | .readQueue | .clearStatus => n == 2
  | .washWithdraw | .washAbort | .readFilter | .setClass | .setPause | .editOpen => n == 1
  | .readJournal | .readPage => n == 3
  | .clockSet => n == 4
  | .editWrite => decide (4 ≤ n) && decide (n ≤ 60) && n % 4 == 0

/-- The role may send the kind (Table 10-5). -/
def ReqKind.allows (k : ReqKind) (r : Role) : Bool :=
  match k with
  | .report | .stepReady | .stepDone | .stepFault => r == .gallery
  | .setClass | .setPause | .clockSet | .clearStatus | .peakReset | .editOpen | .editWrite
  | .editClose | .commit => r == .supervisor
  | _ => true

/-- The kinds whose filter is checked against a gallery port's bounds (R154). -/
def ReqKind.boundsChecked : ReqKind → Bool
  | .report | .filterMode | .washRequest | .washWithdraw | .washAbort | .stepReady | .stepDone
  | .stepFault => true
  | _ => false

/-- The free places the largest answer of a kind can need (R154, Table 10-7). -/
def ReqKind.places : ReqKind → Nat
  | .readJournal => 5
  | .readSlots => 3
  | .readQueue | .readMonitor => 2
  | _ => 1

/-- The result codes (Table 10-4). -/
inductive Code where
  | ok | notAttached | role | bounds | noFilter | range | state | staleStep | forced | overlap
  | latch | busy | locked | consistency | format
deriving DecidableEq, Repr, Inhabited

/-- A result code's number (Table 10-4). -/
def Code.number : Code → Nat
  | .ok => 0 | .notAttached => 1 | .role => 2 | .bounds => 3 | .noFilter => 4 | .range => 5
  | .state => 6 | .staleStep => 7 | .forced => 8 | .overlap => 9 | .latch => 10 | .busy => 11
  | .locked => 12 | .consistency => 13 | .format => 14

/-! ### Fields of a payload (R159) -/

/-- The byte at a position, as a number. -/
def byteAt (pl : List Byte) (i : Nat) : Nat := (pl.getD i 0).toNat

/-- The two-byte number at a position, most significant byte first. -/
def word16At (pl : List Byte) (i : Nat) : Nat := byteAt pl i * 256 + byteAt pl (i + 1)

/-- The four-byte number at a position, most significant byte first. -/
def word32At (pl : List Byte) (i : Nat) : Nat := word16At pl i * 65536 + word16At pl (i + 2)

/-- A bit of the byte at a position. -/
def bitAt (pl : List Byte) (i bit : Nat) : Bool := (pl.getD i 0).getLsbD bit

/-- A filter number of a request, if it is 0 to 15. -/
def filterOf (n : Nat) : Option FilterNo := if h : n < 16 then some ⟨n, h⟩ else none

/-- A field that is present only where its flag bit says so. -/
def optionalField (present : Bool) (v : Nat) : Option Nat := if present then some v else none

/-- The items of an EDIT_WRITE: identifier, index, value of two bytes each (Table 10-5). -/
def editItems : List Byte → List EditItem
  | a :: b :: c :: d :: rest => ⟨a.toNat, b.toNat, c.toNat * 256 + d.toNat⟩ :: editItems rest
  | _ => []

/-- A bit is set beyond those that the tables assign (R154, check 5). -/
def reservedBits (k : ReqKind) (pl : List Byte) : Bool :=
  match k with
  | .report => decide (4 ≤ byteAt pl 1)
  | .filterMode => decide (2 ≤ byteAt pl 2)
  | .clearStatus => decide (1024 ≤ word16At pl 0)
  | _ => false

end Sys2Proof.Machine
end

