-- ==== Sys2Proof/Machine/Notices.lean ====
section
/-! DEFINITION. Owed notices (R69, R88, R141, R158): which port exists for each, the frame it becomes, its
entry into an outbound queue, and the offering of owed notices at the end of an event. -/

namespace Sys2Proof.Machine

/-- The holders of owed notices (R158). -/
inductive Notice where
  /-- A slot's STEP_SET or STEP_RUN. -/
  | slot (i : SlotId)
  /-- A filter record's WASH_END. -/
  | washEnd (f : FilterNo)
  /-- The Page Store's COMMIT_DONE. -/
  | commitDone
deriving DecidableEq, Repr, Inhabited

/-- Every holder. -/
def allNotices : List Notice :=
  [.slot .a, .slot .b] ++ allFilters.map Notice.washEnd ++ [.commitDone]

/-- The positions of outcomes in their list (R159). -/
def WashOutcome.code : WashOutcome → Nat
  | .complete => 0 | .completeRipenLong => 1 | .aborted => 2

/-- The positions of causes in their list (R159). -/
def Cause.code : Cause → Nat
  | .noCause => 0 | .requested => 1 | .valveTimeout => 2 | .valveFault => 3 | .drainTimeout => 4
  | .supplyShort => 5 | .supplyWait => 6 | .tankLow => 7 | .portLapsed => 8

/-- A frame joins the tail of a port's outbound queue (R158). -/
def State.sendFrame (p : Port) (fr : Frame) (s : State) : State :=
  s.setPort p { s.port p with outbound := (s.port p).outbound ++ [fr] }

/-- The free places of a port's outbound queue (R151, R154). -/
def PortRec.freePlaces (r : PortRec) : Nat := 8 - r.outbound.length

/-- The frame of an owed notice and the port that exists for it; none if nothing is owed or no port
exists (Table 10-6, R158). -/
def State.noticeFrame (s : State) : Notice → Option (Port × Frame)
  | .slot i =>
    let x := s.slot i
    match x.noticeOwed, x.filter with
    | some .stepSet, some f =>
      (s.coveringPort f).map fun p =>
        (p, ⟨0x60, 0, u8 f.val ++ u8 (slotCode i) ++ u8 x.stepIndex ++ u8 x.step.kind.code ++
          u8 x.repeatIndex⟩)
    | some .stepRun, some f =>
      (s.coveringPort f).map fun p =>
        (p, ⟨0x61, 0, u8 f.val ++ u8 x.stepIndex ++ u8 x.repeatIndex⟩)
    | _, _ => none
  | .washEnd f =>
    let r := s.filter f
    if r.endOwed then
      (s.coveringPort f).map fun p =>
        (p, ⟨0x62, 0, u8 f.val ++ u8 ((r.lastOutcome.map WashOutcome.code).getD 0) ++
          u8 r.lastCause.code ++ u16 ((r.lastSequence.map BitVec.toNat).getD 0)⟩)
    else none
  | .commitDone =>
    match s.store.owedDone with
    | some (p, page) =>
      if (s.port p).attached then some (p, ⟨0x63, 0, u8 page.number ++ u8 Code.ok.number⟩) else none
    | none => none

/-- The holder no longer owes its notice; a STEP_SET that enters while the slot is in SETUP starts the
valve timer (R26, R69, R141). -/
def State.noticeSent (s : State) : Notice → State
  | .slot i =>
    let x := s.slot i
    s.setSlot i
      { x with
        noticeOwed := none
        valveTimer :=
          if x.noticeOwed = some .stepSet ∧ x.state = .setup then some s.plant.valveTravel
          else x.valveTimer }
  | .washEnd f => s.setFilter f { s.filter f with endOwed := false }
  | .commitDone => { s with store := { s.store with owedDone := none } }

/-- An owed notice enters its port's outbound queue if the port exists for it and a place is free
(R158). -/
def State.enterNotice (n : Notice) (s : State) : State :=
  match s.noticeFrame n with
  | some (p, fr) => if 0 < (s.port p).freePlaces then (s.sendFrame p fr).noticeSent n else s
  | none => s

/-- The owed notices that could enter a port's outbound queue now (R158). -/
def State.readyAt (s : State) (p : Port) : List Notice :=
  if 0 < (s.port p).freePlaces then
    allNotices.filter fun n => (s.noticeFrame n).any fun x => x.1 == p
  else []

/-- Owed notices enter a port's outbound queue while places are free; where several want a place, any of
them may take it first (R158, log 18). -/
def State.offerAt : Nat → Port → State → State
  | 0, _, s => s
  | k + 1, p, s =>
    match s.readyAt p with
    | [] => s
    | [n] => (s.enterNotice n).offerAt k p
    | n :: m :: rest =>
      (s.chosen.enterNotice ((n :: m :: rest).getD (s.choice % (rest.length + 2)) n)).offerAt k p

/-- The offering of owed notices to every port: there are nineteen holders (R158). -/
def State.offerAll (s : State) : State := allPorts.foldl (fun t p => t.offerAt 19 p) s

end Sys2Proof.Machine
end

