-- ==== Sys2Proof/Machine/Link.lean ====
section
/-! DEFINITION. The Station Link (R151 to R158): frames and their bytes, the receiver, taking a request,
the checks before the owning block, answers, attachment and the covered set. -/

namespace Sys2Proof.Machine

/-! ### Frames and the receiver (R152, R153) -/

/-- The bytes over which the check value is computed: kind, tag, length, payload (R152). -/
def Frame.checked (fr : Frame) : List Byte :=
  fr.kind :: fr.tag :: BitVec.ofNat 8 fr.payload.length :: fr.payload

/-- A 16-bit value as two bytes, high byte first. -/
def bytes16 (c : BitVec 16) : List Byte := u16 c.toNat

/-- The bytes of a frame on the line (Table 10-2). -/
def Frame.bytes (fr : Frame) : List Byte := 0xA5#8 :: (fr.checked ++ bytes16 (crc16 fr.checked))

/-- A discarded frame: the error count rises by 1 and the receiver hunts again (R153). -/
def PortRec.discard (r : PortRec) : PortRec :=
  { r with errorCount := r.errorCount + 1, receiver := .hunting }

/-- The arrival of a good frame: the silence timer of an attached port restarts, and the frame joins the
inbound queue or is dropped at a full one (R153). -/
def PortRec.arrive (fr : Frame) (r : PortRec) : PortRec :=
  let r1 : PortRec :=
    { r with
      receiver := .hunting
      silenceTimer := if r.attached then some r.silenceLimit else r.silenceTimer }
  if r1.inbound.length < 4 then { r1 with inbound := r1.inbound ++ [fr] }
  else { r1 with dropCount := r1.dropCount + 1 }

/-- The frame that gathered bytes hold: kind, tag, length, payload (R152). -/
def gatheredFrame (bs : List Byte) : Frame :=
  ⟨bs.getD 0 0, bs.getD 1 0, (bs.drop 3).take (byteAt bs 2)⟩

/-- The receiver takes one byte, no gap before it (R153). -/
def PortRec.receive (r : PortRec) (b : Byte) : PortRec :=
  match r.receiver with
  | .hunting => if b = 0xA5 then { r with receiver := .gathering [] } else r
  | .gathering bs =>
    let all := bs ++ [b]
    if all.length = 3 ∧ 60 < b.toNat then r.discard
    else if 3 ≤ all.length ∧ all.length = byteAt all 2 + 5 then
      if bytes16 (crc16 (all.take (byteAt all 2 + 3))) = all.drop (byteAt all 2 + 3) then
        r.arrive (gatheredFrame all)
      else r.discard
    else { r with receiver := .gathering all }

/-- The receiver takes bytes one at a time (R153). -/
def PortRec.receiveAll (bs : List Byte) (r : PortRec) : PortRec := bs.foldl PortRec.receive r

/-- The receiver takes a byte after a gap of more than 5 ms: a partial frame is discarded, and the byte is
taken as a hunting byte (R153). -/
def PortRec.receiveAfterGap (b : Byte) (r : PortRec) : PortRec :=
  match r.receiver with
  | .hunting => r.receive b
  | .gathering _ => r.discard.receive b

/-! ### Answers (R154, R160) -/

/-- What a request is answered with: a refusal, or OK with the fields of one or more frames. -/
inductive Reply where
  | refuse (c : Code)
  | frames (fs : List (List Byte))
deriving DecidableEq, Repr

/-- OK with the status byte alone. -/
def Reply.done : Reply := .frames [[]]

/-- The status byte: result code, frame index, and bit 7 in the last frame (R154). -/
def statusByte (c : Code) (index : Nat) (last : Bool) : Byte :=
  BitVec.ofNat 8 (c.number + 16 * index + if last then 128 else 0)

/-- The payloads of an OK answer, from a frame index on (R160). -/
def okPayloads : Nat → List (List Byte) → List (List Byte)
  | _, [] => []
  | i, [x] => [statusByte .ok i true :: x]
  | i, x :: y :: rest => (statusByte .ok i false :: x) :: okPayloads (i + 1) (y :: rest)

/-- The payloads of an answer (R154, R160). -/
def Reply.payloads : Reply → List (List Byte)
  | .refuse c => [[statusByte c 0 true]]
  | .frames fs => okPayloads 0 fs

/-- The frames of an answer join the outbound queue together, in index order (R160). -/
def State.answer (p : Port) (kind tag : Byte) (reply : Reply) (s : State) : State :=
  reply.payloads.foldl (fun t pl => t.sendFrame p ⟨kind, tag, pl⟩) s

/-! ### Taking a request (R154) -/

/-- The Station Link's checks on a request, in order; none if all pass (Table 10-3). -/
def State.linkCheck (s : State) (p : Port) (k : ReqKind) (pl : List Byte) : Option Code :=
  let r := s.port p
  if !k.lengthOk pl.length then some .format
  else if r.role = none ∧ k ≠ .attach then some .notAttached
  else if r.role.any (fun x => !k.allows x) then some .role
  else if r.role = some .gallery ∧ k.boundsChecked = true ∧
      (filterOf (byteAt pl 0)).any (fun f => r.bounds.any fun b => b.has f) = false then some .bounds
  else if reservedBits k pl then some .range
  else none

/-- The head of a port's inbound queue has been taken (R154). -/
def State.popInbound (p : Port) (s : State) : State :=
  s.setPort p { s.port p with inbound := (s.port p).inbound.drop 1 }

/-- The frame that a port can take now as a request of a kind: at the head of its inbound queue, of that
kind, with the places its answer can need (R154). -/
def State.takes (s : State) (p : Port) (k : ReqKind) : Option Frame :=
  match (s.port p).inbound with
  | [] => none
  | fr :: _ => if fr.kind = k.code ∧ k.places ≤ (s.port p).freePlaces then some fr else none

/-- What the owning block does with a payload from a port: its effects and its reply. -/
abbrev Body := Port → List Byte → State → State × Reply

/-- A request that has passed or failed the Station Link's checks, with its effects and its reply
(R154). -/
def State.handle (p : Port) (k : ReqKind) (body : Body) (pl : List Byte) (s : State) :
    State × Reply :=
  match s.linkCheck p k pl with
  | some c => (s, .refuse c)
  | none => body p pl s

/-- A port takes the request at the head of its inbound queue: the frame is removed, checked and handed
to its block, the answer is queued after the effects, and owed notices are offered after the answer
(R154). With no such frame, or without the places its answer can need, nothing is taken (log 1). -/
def State.serve (p : Port) (k : ReqKind) (body : Body) (s : State) : State :=
  match s.takes p k with
  | none => s
  | some fr =>
    let t := (s.popInbound p).handle p k body fr.payload
    (t.1.answer p (k.code + 0x80) fr.tag t.2).offerAll

/-- A port takes a frame of a kind that is not in the catalogue: FORMAT under kind 0xFF (R154). -/
def State.serveUnknown (p : Port) (s : State) : State :=
  match (s.port p).inbound with
  | [] => s
  | fr :: _ =>
    if knownKind fr.kind = false ∧ 1 ≤ (s.port p).freePlaces then
      ((s.popInbound p).answer p 0xFF fr.tag (.refuse .format)).offerAll
    else s

/-! ### Attachment (R155 to R157) -/

/-- The slots take a change of coverage. Where both hold a wash either may take it first: the supply that
one gives up may go to the other before that one halts too (R114, log 31). -/
def State.slotsPresence (before : Vector Bool 16) (s : State) : State :=
  if s.slotA.filter.isSome && s.slotB.filter.isSome then
    if s.choice % 2 = 0 then (s.chosen.slotPresence before .a).slotPresence before .b
    else (s.chosen.slotPresence before .b).slotPresence before .a
  else (s.slotPresence before .a).slotPresence before .b

/-- A change of the covered set is handed to the Wash Queue and to the slots (R39, R113, R155). -/
def State.handCoverage (s : State) : State :=
  let before := s.queue.covered
  let now := s.coverage
  if now = before then s
  else
    let t : State := { s with queue := { s.queue with covered := now } }
    (t.slotsPresence before).rotate

/-- The bounds of a GALLERY ATTACH, if first and last are filter numbers in order (R155). -/
def boundsOf (first last : Nat) : Option Bounds :=
  match filterOf first, filterOf last with
  | some a, some b => if a ≤ b then some ⟨a, b⟩ else none
  | _, _ => none

/-- Two bounds share a filter (R155). -/
def Bounds.shares (a b : Bounds) : Bool := decide (a.first ≤ b.last) && decide (b.first ≤ a.last)

/-- Another port is attached in GALLERY role with bounds that share a filter (R155). -/
def State.overlaps (s : State) (p : Port) (b : Bounds) : Bool :=
  allPorts.any fun p' =>
    p' != p && (s.port p').role == some .gallery && (s.port p').bounds.any fun b' => b.shares b'

/-- The effects of an accepted ATTACH (R155). -/
def State.acceptAttach (p : Port) (role : Role) (bounds : Option Bounds) (limit : Nat) (s : State) :
    State :=
  let t := s.setPort p
    { s.port p with
      role := some role, bounds := bounds, silenceLimit := limit, silenceTimer := some limit }
  let t1 : State :=
    if role = .gallery then { t with store := t.store.releaseLatchOf p } else t
  t1.handCoverage

/-- ATTACH (R155). -/
def attachBody : Body := fun p pl s =>
  let limit := byteAt pl 3
  if 1 < byteAt pl 0 then (s, .refuse .range)
  else if limit < 1 ∨ 60 < limit then (s, .refuse .range)
  else if byteAt pl 0 = 1 then (s.acceptAttach p .supervisor none limit, .done)
  else
    match boundsOf (byteAt pl 1) (byteAt pl 2) with
    | none => (s, .refuse .range)
    | some b =>
      if s.overlaps p b then (s, .refuse .overlap)
      else (s.acceptAttach p .gallery (some b) limit, .done)

/-- A port becomes UNATTACHED: role and bounds none, silence timer stopped, its latch released, a
COMMIT_DONE owed to it dropped, and a change of the covered set handed on (R156, R157). -/
def State.unattach (p : Port) (s : State) : State :=
  let t := s.setPort p { s.port p with role := none, bounds := none, silenceTimer := none }
  State.handCoverage { t with store := (t.store.releaseLatchOf p).dropDoneOf p }

/-- DETACH from an attached port (R156). -/
def detachBody : Body := fun p _ s => (s.unattach p, .done)

/-- The lapse of a port at the expiry of its silence timer (R157). -/
def State.silenceExpiry (p : Port) (s : State) : State :=
  if (s.port p).silenceTimer.isSome then (s.unattach p).latchFlag .portLapsed else s

/-! ### Departure (R158) -/

/-- The free places that the frame at the head of an inbound queue needs before it can be taken (R154). -/
def placesFor (kind : Byte) : Nat :=
  match allKinds.find? fun k => k.code == kind with
  | some k => k.places
  | none => 1

/-- The free places that the request at the head of the inbound queue claims: those its answer can need, where
it can be taken now, and none where it cannot (R154). That it claims them against owed notices is the model's choice
(DESIGN CHOICE, log 18). -/
def PortRec.headClaim (r : PortRec) : Nat :=
  match r.inbound with
  | [] => 0
  | fr :: _ => if placesFor fr.kind ≤ r.freePlaces then placesFor fr.kind else 0

/-- Owed notices enter the free places of a port that the head request does not claim. Where that leaves a
notice without a place, it and the request want the same places, and either may take them first: the notices
take what they want of the claimed places, or all of these are left for the request (R158, log 18). -/
def State.offerFreed (p : Port) (s : State) : State :=
  let t := s.offerAt ((s.port p).freePlaces - (s.port p).headClaim) p
  match t.readyAt p with
  | [] => t
  | _ :: _ => if t.choice % 2 = 0 then t.chosen.offerAt 19 p else t.chosen

/-- A frame leaves the outbound queue, and its place becomes free (R158). -/
def State.depart (p : Port) (s : State) : State :=
  match (s.port p).outbound with
  | [] => s
  | _ :: rest =>
    allPorts.foldl (fun t q => t.offerFreed q) (s.setPort p { s.port p with outbound := rest })

end Sys2Proof.Machine
end

