-- ==== Sys2Proof/Machine/Answers.lean ====
section
/-! DEFINITION. What the reading requests answer: the fields of each record in the order its rule lists
them, encoded by R159 into the frames of Table 10-7. Where R159 leaves a layout open, log 11 says which one
the model takes. -/

namespace Sys2Proof.Machine

/-! ### Fields -/

/-- A one-byte number field. -/
def num1 (n : Nat) : Field := .num (u8 n)

/-- A two-byte number field. -/
def num2 (n : Nat) : Field := .num (u16 n)

/-- A four-byte number field. -/
def num4 (n : Nat) : Field := .num (u32 n)

/-- An optional one-byte field. -/
def opt1 (v : Option Nat) : Field := .opt 1 (v.map u8)

/-- An optional two-byte field. -/
def opt2 (v : Option Nat) : Field := .opt 2 (v.map u16)

/-- An optional four-byte field. -/
def opt4 (v : Option Nat) : Field := .opt 4 (v.map u32)

/-- The seconds remaining on a timer, 0 for a stopped one (R63, R89). -/
def Timer.remaining (t : Timer) : Nat := Option.getD t 0

/-! ### Enumerations by their position in the manual's list (R159) -/

def FilterState.code : FilterState → Nat
  | .absent => 0 | .standby => 1 | .service => 2 | .wash => 3

def Standing.code : Standing → Nat
  | .out => 0 | .below => 1 | .hold => 2 | .due => 3 | .limit => 4

def RawClass.code : RawClass → Nat
  | .normal => 0 | .elevated => 1 | .flood => 2

def EntryClass.code : EntryClass → Nat
  | .forced => 0 | .requested => 1 | .due => 2

def ForcedReason.code : ForcedReason → Nat
  | .limit => 0 | .supervisor => 1

def Eligibility.code : Eligibility → Nat
  | .eligible => 0 | .noPresence => 1 | .page => 2 | .floor => 3

def WaitReason.code : WaitReason → Nat
  | .noWait => 0 | .slot => 1 | .concurrency => 2 | .paused => 3 | .spacing => 4 | .monitor => 5
  | .tank => 6 | .basin => 7

def SlotState.code : SlotState → Nat
  | .idle => 0 | .setup => 1 | .waitSupply => 2 | .run => 3 | .resettle => 4 | .halt => 5

def SlotNotice.code : SlotNotice → Nat
  | .stepSet => 0 | .stepRun => 1

def SupplySet.code : SupplySet → Nat
  | .air => 0 | .water => 1 | .airWater => 2

def Role.code : Role → Nat
  | .gallery => 0 | .supervisor => 1

/-! ### PING (R156) -/

/-- The fields of a PING answer (R156). -/
def pingFields (p : Port) (r : PortRec) : List Field :=
  [num1 (portCode p), num1 ((r.role.map Role.code).getD 0),
   .opt 2 (r.bounds.map fun b => u8 b.first.val ++ u8 b.last.val),
   num1 r.silenceLimit, num1 (Timer.remaining r.silenceTimer), num2 r.errorCount.toNat,
   num2 r.dropCount.toNat]

/-! ### READ_FILTER (R27) -/

/-- The fields of a READ_FILTER answer (R27), the two presence bits of the measurements before the two clamped
indications (log 11). -/
def filterFields (r : FilterRec) (rawClass : RawClass) (threshold : Nat) : List Field :=
  [num1 r.state.code, num1 r.standing.code, num2 r.area, num1 r.programme.val,
   num2 r.headlossLimit, num2 r.turbidityLimit, num2 r.runLimit,
   opt2 r.headloss, opt2 r.turbidity, .flag r.headlossClamped, .flag r.turbidityClamped,
   num1 r.reportAge, .flag r.stale, num2 r.runMinutes,
   num2 r.headlossFraction, num2 r.turbidityFraction, num2 r.runFraction, num2 r.urgency,
   opt2 r.deferralMark, .flag r.washFailed, .flag r.historyUnknown,
   num2 r.washCount.toNat, num1 r.abortCount,
   opt1 (r.lastOutcome.map WashOutcome.code), num1 r.lastCause.code,
   opt2 (r.lastSequence.map BitVec.toNat), .flag r.endOwed,
   num1 rawClass.code, num1 threshold]

/-! ### READ_QUEUE (R42) -/

/-- The totals of a READ_QUEUE answer (R42). -/
def State.queueTotals (s : State) : List Field :=
  [num1 s.queue.entries.length, opt1 (s.queue.candidate.map fun f => f.val),
   num4 s.queue.joinCounter.toNat, num1 s.queue.serviceCount, num1 s.queue.floor,
   num1 s.filters.rawClass.code]

/-- The fields of a returned queue entry (R42). -/
def State.entryFields (s : State) (position : Nat) (e : Entry) : List Field :=
  [num1 position, num1 e.filter.val, num1 e.cls.code, opt1 (e.reason.map ForcedReason.code),
   num2 e.urgency, num4 e.ticket.toNat, num4 e.joinMinute.toNat,
   opt1 (e.requestedBy.map portCode), num1 (s.eligibility e).code]

/-- The entries returned, each with its position (R42). -/
def State.entriesFrom (s : State) (start count : Nat) : List (Nat × Entry) :=
  (s.queue.entries.zipIdx.map fun x => (x.2, x.1)).drop start |>.take count

/-- The bytes of returned entries. -/
def State.entryBytes (s : State) (es : List (Nat × Entry)) : List Byte :=
  es.flatMap fun x => encodeRecord (s.entryFields x.1 x.2)

/-- The frames of a READ_QUEUE answer: totals and up to two entries, then the rest (R42, Table 10-7). -/
def State.queueFrames (s : State) (start count : Nat) : List (List Byte) :=
  let es := s.entriesFrom start count
  let first := encodeRecord s.queueTotals ++ s.entryBytes (es.take 2)
  if es.length ≤ 2 then [first] else [first, s.entryBytes (es.drop 2)]

/-! ### READ_SLOTS (R63, R89, R102) -/

/-- The admission status (Table 3-3). The four fields in litres, which R159 gives no width, are sent as four
bytes (log 11). -/
def State.admissionFields (s : State) : List Field :=
  let u := s.admission
  let level := fun (v : Option Nat) => if u.primed then v else none
  [opt1 (u.candidate.map fun f => f.val), num1 u.waitReason.code, .flag u.paused,
   num2 (Timer.remaining u.spacing), num1 u.activeCount, num1 s.plant.maxConcurrent,
   num4 u.admissionCounter.toNat,
   opt4 (level (some (tankAvailable s.plant (u.tankLevel.getD 0)))),
   opt4 (level (some (basinFree s.plant (u.basinLevel.getD 0)))),
   num4 s.outstanding, opt4 u.lastNeeded, num1 u.stallCount, .flag u.rotationStalled,
   .flag u.forcedWaiting]

/-- A request of the arbiter's list, in its place of two (R102). -/
def requestField (r : Option Request) : Field :=
  .opt 6 (r.map fun x => u8 (slotCode x.slot) ++ u32 x.ticket.toNat ++ u8 x.set.code)

/-- The arbiter's state (R102). A holder is an optional byte, absent for none (log 11). -/
def Arbiter.fields (a : Arbiter) : List Field :=
  [opt1 (a.airHolder.map slotCode), opt1 (a.waterHolder.map slotCode),
   requestField a.requests[0]?, requestField a.requests[1]?,
   .flag a.tankLow, .flag a.basinFull, .flag a.tankFault, .flag a.flowFault,
   num2 a.waterDemand, .flag a.blowerRun]

/-- The seconds remaining on the clear-hold timer (R89). -/
def ClearHold.remaining : ClearHold → Nat
  | .stopped => 0
  | .running n => n
  | .frozen n => n

/-- The clear hold is frozen (R89). -/
def ClearHold.isFrozen : ClearHold → Bool
  | .frozen _ => true
  | _ => false

/-- The fields of one slot (R89). The seconds remaining of the eight timers stand in the order of Table 4-3,
and an IDLE slot, which has no step, shows kind 0 and repeat index 0 (log 11). -/
def State.slotFields (s : State) (i : SlotId) : List Field :=
  let x := s.slot i
  let step := fun (n : Nat) => if x.state = .idle then 0 else n
  [num1 x.state.code, opt1 (x.filter.map fun f => f.val), opt1 (x.page.map fun g => g.val),
   num4 x.ticket.toNat, num1 x.programme.length, num1 x.stepIndex, num1 (step x.step.kind.code),
   num1 x.repeatsLeft, num1 (step x.repeatIndex), num2 x.stepElapsed,
   num2 (Timer.remaining x.valveTimer), num2 (Timer.remaining x.stepTimer),
   num2 (Timer.remaining x.supplyWait), num1 (Timer.remaining x.rampTimer),
   num1 (Timer.remaining x.shortfall), num1 (Timer.remaining x.resettle),
   num2 (Timer.remaining x.haltTimer), num2 x.clearHold.remaining, .flag x.clearHold.isFrozen,
   .flag (s.arbiter.holdsAir i), .flag (s.arbiter.holdsWater i), num2 x.demandNow,
   num2 (if s.arbiter.holdsWater i then s.arbiter.waterDemand else 0), num1 x.rampK,
   num4 x.reservation, num4 x.delivered, num4 x.outstanding, .flag x.retryUsed,
   .flag x.filterStale, .flag x.historyUnknown, opt2 x.peakWaste, num4 x.startMinute.toNat,
   .flag x.rateClamped, .flag x.flowUnsupervised, .flag x.ripenLong,
   opt1 (x.noticeOwed.map SlotNotice.code)]

/-- The three frames of a READ_SLOTS answer (Table 10-7). -/
def State.slotsFrames (s : State) : List (List Byte) :=
  [encodeRecord s.admissionFields ++ encodeRecord s.arbiter.fields,
   encodeRecord (s.slotFields .a), encodeRecord (s.slotFields .b)]

/-! ### READ_MONITOR (R131) -/

/-- The fields of one channel (R131). -/
def channelFields (r : ChannelRec) (c : ChannelCfg) : List Field :=
  [.flag r.fault, num2 r.faultEntries.toNat, opt2 (r.lastRaw.map BitVec.toNat),
   opt2 r.lastScaled, .flag r.lastClamped, num1 r.windowCount, num1 (2 ^ c.exponent),
   opt2 r.average, opt2 r.extreme, num1 c.exponent, num2 c.zero, num2 c.span]

/-- The plant-wide fields (R131). REFILL is a yes/no field, active as yes, and the water holder view an
optional byte, absent for none (log 11). -/
def State.monitorFields (s : State) : List Field :=
  let m := s.monitor
  [.flag m.primed, .flag m.tankLow, .flag m.basinFull, .flag m.signalFault, .flag m.refill,
   opt1 (m.waterView.map slotCode), num4 m.unattributed.toNat, num4 m.totalLitres.toNat,
   num1 m.totalRemainder, num2 m.rollover.toNat, num4 m.sampleCount.toNat,
   num2 s.plant.tankLowLow, num2 s.plant.refillOn, num2 s.plant.refillOff,
   num2 s.plant.basinMaximum]

/-- The two frames of a READ_MONITOR answer (Table 10-7). -/
def State.monitorFrames (s : State) : List (List Byte) :=
  [encodeRecord (channelFields s.monitor.tank s.plant.tankCfg) ++
     encodeRecord (channelFields s.monitor.flow s.plant.flowCfg) ++
     encodeRecord (channelFields s.monitor.basin s.plant.basinCfg),
   encodeRecord s.monitorFields]

/-! ### READ_JOURNAL (R145, R146) -/

/-- The fields of a journal record: those of Table 4-6 and its sequence number, 27 bytes (R159). -/
def JournalRec.fields (r : JournalRec) : List Field :=
  [num1 r.filter.val, num1 ((r.page.map fun g => g.val).getD 0), num4 r.startMinute.toNat,
   num4 r.endMinute.toNat, num1 r.outcome.code, num1 r.cause.code, num1 r.stepIndex,
   num4 r.reservation, num4 r.deliveredLitres, num1 r.retriesUsed, opt2 r.peakWaste,
   .flag r.rateClamped, .flag r.flowUnsupervised, .flag r.ripenLong, .flag r.historyUnknown,
   num2 r.sequence.toNat]

/-- The oldest held sequence: the next sequence less the count held, modulo 65536 (R145). -/
def Journal.oldest (j : Journal) : Count16 := j.nextSequence - BitVec.ofNat 16 j.records.length

/-- A sequence number is held (R145). -/
def Journal.holds (j : Journal) (q : Count16) : Bool :=
  decide ((q - j.oldest).toNat < j.records.length)

/-- The records returned from a start sequence: from it if it is held, from the oldest if not (R146). -/
def Journal.recordsFrom (j : Journal) (start : Count16) (count : Nat) : List JournalRec :=
  (j.records.drop (if j.holds start then (start - j.oldest).toNat else 0)).take count

/-- The header of a READ_JOURNAL answer: count, oldest, next, start indication (R146). -/
def Journal.header (j : Journal) (start : Count16) : List Byte :=
  u8 j.records.length ++ u16 j.oldest.toNat ++ u16 j.nextSequence.toNat ++
    u8 (if j.holds start then 0 else 1)

/-- The bytes of journal records. -/
def journalBytes (rs : List JournalRec) : List Byte := rs.flatMap fun r => encodeRecord r.fields

/-- Records two to a frame (Table 10-7). -/
def inPairs : List JournalRec → List (List Byte)
  | [] => []
  | [r] => [journalBytes [r]]
  | r :: q :: rest => journalBytes [r, q] :: inPairs rest

/-- The frames of a READ_JOURNAL answer: the header and up to one record, then two records a frame
(R146, Table 10-7). -/
def Journal.frames (j : Journal) (start : Count16) (count : Nat) : List (List Byte) :=
  let rs := j.recordsFrom start count
  (j.header start ++ journalBytes (rs.take 1)) :: inPairs (rs.drop 1)

/-! ### READ_PAGE (R144, R160) -/

/-- The last part number of a page (R160). -/
def PageId.lastPart : PageId → Nat
  | .programme _ => 2
  | .plant => 5

/-- Part of a programme page: the step count, and the positions of the part that `steps` holds (R144,
R160). -/
def programmePart (count : Nat) (steps : List StepRec) (part : Nat) : List Byte :=
  u8 count ++ ((steps.drop (4 * part)).take 4).flatMap StepRec.bytes

/-- Part of a plant page (R160); each filter of parts 0 to 3 has its own flag byte (log 11). -/
def PlantPage.part (q : PlantPage) (part : Nat) : List Byte :=
  if part < 4 then ((q.filters.toList.drop (4 * part)).take 4).flatMap FilterCfg.bytes
  else if part = 4 then q.part4
  else q.part5

/-- The validity and the stored check value of a page (R144). -/
def PageStore.standing (t : PageStore) : PageId → Bool × BitVec 16
  | .programme g => (t.programmes[g].valid, t.programmes[g].check)
  | .plant => (t.plant.valid, t.plant.check)

/-- The header of a READ_PAGE answer: page, source, part, validity, check value (R144). -/
def PageStore.pageHeader (t : PageStore) (g : PageId) (source part : Nat) : List Byte :=
  u8 g.number ++ u8 source ++ u8 part ++ u8 (if (t.standing g).1 then 0 else 1) ++
    u16 (t.standing g).2.toNat

/-- The fields of a part of a stored page: none for an INVALID page (R144). -/
def PageStore.storedPart (t : PageStore) (g : PageId) (part : Nat) : List Byte :=
  if (t.standing g).1 then
    match g with
    | .programme n => programmePart t.programmes[n].steps.length t.programmes[n].steps part
    | .plant => t.plant.content.part part
  else []

/-- The fields of a part of the staging page (R144). -/
def Staged.part (x : Staged) (part : Nat) : List Byte :=
  match x with
  | .programme _ count steps => programmePart count steps part
  | .plant q => q.part part

/-! ### READ_STATUS (R150) -/

/-- The fields of a READ_STATUS answer (R150). The live copies are sent as one set of flags, six of them (log
27), in the bits of Table 9-1 (log 11). -/
def State.statusFields (s : State) : List Field :=
  [num2 s.status.latched.toNat, num2 s.status.live.toNat, .flag s.status.alert0,
   .flag s.status.alert1, num2 s.plant.alert0Mask.toNat, num1 s.plant.alert0Mode.code,
   num2 s.plant.alert1Mask.toNat, num1 s.plant.alert1Mode.code]

end Sys2Proof.Machine
end

