-- ==== Sys2Proof/Machine/Resets.lean ====
section
/-! DEFINITION. The two resets and the start-up sequence (R163). -/

namespace Sys2Proof.Machine

/-- Either reset asserted: every block at its reset values, the outputs inactive, the stored pages kept,
an interrupted commit torn; the part is then held until START_UP (R143, R163, log 8). -/
def State.assertReset (s : State) : State :=
  { State.booted (s.store.held s.free) s.lineRate
      (if s.store.commit.isSome then s.free + 1 else s.free) s.pending with
    inReset := true
    status := Status.allClear }

/-- The end of a reset: the straps are read, the pages revalidated, the blocks take their reset values,
PAGE_INVALID is latched if a page is INVALID and the alert lines are evaluated (R163). -/
def State.startUp (baud1 baud0 : Bool) (s : State) : State :=
  State.booted s.store.revalidate (LineRate.ofStraps baud1 baud0) s.free s.pending

/-- POWER_ON_RESET (R163). -/
def execPowerOnReset (s : State) : Host.Outcome State Fault Refusal := .next s.assertReset

/-- RESET_LINE: the same effect as power-on reset (R163). -/
def execResetLine (s : State) : Host.Outcome State Fault Refusal := .next s.assertReset

/-- START_UP: the sequence runs at the end of a reset; with no reset in force nothing starts (R163,
log 1). -/
def execStartUp (baud1 baud0 : Bool) (s : State) : Host.Outcome State Fault Refusal :=
  .next (if s.inReset then s.startUp baud1 baud0 else s)

end Sys2Proof.Machine
end

