-- ==== Sys2Proof/Machine/LineEvents.lean ====
section
/-! DEFINITION. The events of the station lines: bytes arriving, a frame leaving, the silence of a port
(R153, R157, R158). -/

namespace Sys2Proof.Machine

/-- FRAME_ARRIVAL: the receiver takes the bytes one at a time, with no gap before any of them (R152,
R153). -/
def execFrameArrival (p : Port) (bytes : List Byte) (s : State) : Host.Outcome State Fault Refusal :=
  s.whenRunning fun t => t.setPort p ((t.port p).receiveAll bytes)

/-- The bytes of a DISCARDED_FRAME: those without a gap, then the byte that ends a gap (R153). -/
def PortRec.receiveWithGap (bytes : List Byte) (gap : Option Byte) (r : PortRec) : PortRec :=
  match gap with
  | none => r.receiveAll bytes
  | some b => (r.receiveAll bytes).receiveAfterGap b

/-- DISCARDED_FRAME: the receiver takes bytes that end in a discard: a length above 60, a gap of more than
5 ms before the byte `gap`, or a check value that differs (R153, log 17). -/
def execDiscardedFrame (p : Port) (bytes : List Byte) (gap : Option Byte) (s : State) :
    Host.Outcome State Fault Refusal :=
  s.whenRunning fun t => t.setPort p ((t.port p).receiveWithGap bytes gap)

/-- FRAME_DEPARTURE: the frame at the head of the outbound queue has been sent (R158). -/
def execFrameDeparture (p : Port) (s : State) : Host.Outcome State Fault Refusal :=
  s.whenRunning (State.depart p)

/-- SILENCE_TIMER_EXPIRY: the port lapses (R157). -/
def execSilenceTimerExpiry (p : Port) (s : State) : Host.Outcome State Fault Refusal :=
  s.whenRunning fun t => (t.silenceExpiry p).offerAll

end Sys2Proof.Machine
end

