-- ==== Sys2Proof/Machine/LinkRequests.lean ====
section
/-! DEFINITION. The requests that the Station Link answers itself (R154 to R156). -/

namespace Sys2Proof.Machine

/-- UNKNOWN_REQUEST: a frame of a kind outside the catalogue is taken (R154). -/
def execUnknownRequest (p : Port) (s : State) : Host.Outcome State Fault Refusal :=
  s.whenRunning (State.serveUnknown p)

/-- ATTACH (R155). -/
def execAttach (p : Port) (s : State) : Host.Outcome State Fault Refusal :=
  s.whenRunning (State.serve p .attach attachBody)

/-- DETACH (R156). -/
def execDetach (p : Port) (s : State) : Host.Outcome State Fault Refusal :=
  s.whenRunning (State.serve p .detach detachBody)

/-- PING is answered with the port's record (R156). -/
def pingBody : Body := fun p _ s => (s, .frames [encodeRecord (pingFields p (s.port p))])

/-- PING (R156). -/
def execPing (p : Port) (s : State) : Host.Outcome State Fault Refusal :=
  s.whenRunning (State.serve p .ping pingBody)

end Sys2Proof.Machine
end

