-- ==== Sys2Proof/Machine/FilterRequests.lean ====
section
/-! DEFINITION. The requests that the Filter Table answers: REPORT and FILTER_MODE (R4, R5, R12 to
R14). -/

namespace Sys2Proof.Machine

/-- The headloss of a REPORT, if present (Table 10-5). -/
def reportHeadloss (pl : List Byte) : Option Nat := optionalField (bitAt pl 1 0) (word16At pl 2)

/-- The turbidity of a REPORT, if present (Table 10-5). -/
def reportTurbidity (pl : List Byte) : Option Nat := optionalField (bitAt pl 1 1) (word16At pl 4)

/-- REPORT at the Filter Table (R12); a filter number above 15 has been refused by the Station Link (log
25). -/
def reportBody : Body := fun _ pl s =>
  match filterOf (byteAt pl 0) with
  | none => (s, .refuse .range)
  | some f =>
    if (reportHeadloss pl).isNone ∧ (reportTurbidity pl).isNone then (s, .refuse .format)
    else
      match (s.filter f).state with
      | .absent => (s, .refuse .noFilter)
      | .standby | .service =>
        ((s.reportStanding f (reportHeadloss pl) (reportTurbidity pl)).rotateFrom s.queue, .done)
      | .wash => (s.reportWash f (reportTurbidity pl), .done)

/-- REPORT (R12). -/
def execReport (p : Port) (s : State) : Host.Outcome State Fault Refusal :=
  s.whenRunning (State.serve p .report reportBody)

/-- The run minutes of a FILTER_MODE, if present (Table 10-5). -/
def modeMinutes (pl : List Byte) : Option Nat := optionalField (bitAt pl 2 0) (word16At pl 3)

/-- The mode of a FILTER_MODE: 0 STANDBY, 1 SERVICE (Table 10-5). -/
def modeOf : Nat → Option FilterState
  | 0 => some .standby
  | 1 => some .service
  | _ => none

/-- FILTER_MODE at the Filter Table (R4). -/
def filterModeBody : Body := fun _ pl s =>
  match filterOf (byteAt pl 0), modeOf (byteAt pl 1) with
  | none, _ => (s, .refuse .range)
  | some _, none => (s, .refuse .range)
  | some f, some mode =>
    if mode = .standby ∧ (modeMinutes pl).isSome = true then (s, .refuse .range)
    else
      match (s.filter f).state with
      | .absent => (s, .refuse .noFilter)
      | .wash => (s, .refuse .state)
      | .standby | .service =>
        ((s.modeChange f mode (modeMinutes pl)).rotateFrom s.queue, .done)

/-- FILTER_MODE (R4). -/
def execFilterMode (p : Port) (s : State) : Host.Outcome State Fault Refusal :=
  s.whenRunning (State.serve p .filterMode filterModeBody)

end Sys2Proof.Machine
end

