-- ==== Sys2Proof/Machine/QueueRequests.lean ====
section
/-! DEFINITION. The requests that the Wash Queue answers: WASH_REQUEST and WASH_WITHDRAW (R34 to R38). -/

namespace Sys2Proof.Machine

/-- The effect of an accepted WASH_REQUEST: the queue takes the request, reports it to the Filter Table,
and chooses anew (R35, R36, R40). -/
def State.takeWashRequest (force : Bool) (f : FilterNo) (p : Port) (s : State) : State :=
  let q := if force then s.queue.takeForce s.clock f p else s.queue.takeRequested s.clock f p
  (State.clearWashFailed f { s with queue := q }).rotateFrom s.queue

/-- WASH_REQUEST at the Wash Queue (R34). -/
def washRequestBody : Body := fun p pl s =>
  match filterOf (byteAt pl 0) with
  | none => (s, .refuse .range)
  | some f =>
    if 1 < byteAt pl 1 then (s, .refuse .range)
    else if byteAt pl 1 = 1 ∧ (s.port p).role = some .gallery then (s, .refuse .role)
    else
      match (s.filter f).state with
      | .absent => (s, .refuse .noFilter)
      | .wash => (s, .refuse .state)
      | .standby | .service => (s.takeWashRequest (byteAt pl 1 == 1) f p, .done)

/-- WASH_REQUEST (R34). -/
def execWashRequest (p : Port) (s : State) : Host.Outcome State Fault Refusal :=
  s.whenRunning (State.serve p .washRequest washRequestBody)

/-- The effect of an accepted WASH_WITHDRAW by the class of the entry, and the new choice (R38, R40). -/
def State.withdrawEntry (f : FilterNo) (e : Entry) (s : State) : State :=
  match e.cls with
  | .due => (State.defer f { s with queue := s.queue.drop f }).rotateFrom s.queue
  | .requested | .forced => State.rotateFrom s.queue { s with queue := s.queue.takeBack f e }

/-- A FORCED entry that this port may not withdraw: reason LIMIT, or any at a gallery port (R37). -/
def Entry.keptFrom (role : Option Role) (e : Entry) : Bool :=
  e.cls == .forced && (e.reason == some .limit || role == some .gallery)

/-- WASH_WITHDRAW at the Wash Queue (R37). -/
def washWithdrawBody : Body := fun p pl s =>
  match filterOf (byteAt pl 0) with
  | none => (s, .refuse .range)
  | some f =>
    if (s.filter f).state = .absent then (s, .refuse .noFilter)
    else
      match s.queue.entry f with
      | none => (s, .refuse .state)
      | some e =>
        if e.keptFrom (s.port p).role then (s, .refuse .forced) else (s.withdrawEntry f e, .done)

/-- WASH_WITHDRAW (R37). -/
def execWashWithdraw (p : Port) (s : State) : Host.Outcome State Fault Refusal :=
  s.whenRunning (State.serve p .washWithdraw washWithdrawBody)

end Sys2Proof.Machine
end

