-- ==== Sys2Proof/Machine/WashRequests.lean ====
section
/-! DEFINITION. The requests that the wash slots answer: WASH_ABORT, STEP_READY, STEP_DONE and STEP_FAULT
(R71, R76, R83, R84). -/

namespace Sys2Proof.Machine

/-- A request that names a filter reaches the slots: the cases that the four requests share, up to the slot
that holds the filter (R71, R76, R83, R84). A number above 15 is answered RANGE. -/
def atSlot (act : SlotId → List Byte → State → State × Reply) : Body := fun _ pl s =>
  match filterOf (byteAt pl 0) with
  | none => (s, .refuse .range)
  | some f =>
    if (s.filter f).state = .absent then (s, .refuse .noFilter)
    else if (s.filter f).state ≠ .wash then (s, .refuse .state)
    else
      match s.holdingSlot f with
      | none => (s, .refuse .state)
      | some i => act i pl s

/-- WASH_ABORT at the slot (R84). -/
def washAbortBody : Body := atSlot fun i _ s => (s.abort i .requested, .done)

/-- WASH_ABORT (R84). -/
def execWashAbort (p : Port) (s : State) : Host.Outcome State Fault Refusal :=
  s.whenRunning (State.serve p .washAbort washAbortBody)

/-- STEP_READY at the slot (R71). -/
def stepReadyBody : Body := atSlot fun i pl s =>
  if byteAt pl 1 ≠ (s.slot i).stepIndex then (s, .refuse .staleStep)
  else if (s.slot i).state ≠ .setup then (s, .refuse .state)
  else if (s.slot i).noticeOwed = some .stepSet then (s, .refuse .state)
  else (s.stepReady i, .done)

/-- STEP_READY (R71). -/
def execStepReady (p : Port) (s : State) : Host.Outcome State Fault Refusal :=
  s.whenRunning (State.serve p .stepReady stepReadyBody)

/-- STEP_DONE at the slot (R76). -/
def stepDoneBody : Body := atSlot fun i pl s =>
  if byteAt pl 1 ≠ (s.slot i).stepIndex then (s, .refuse .staleStep)
  else if (s.slot i).state ≠ .run ∨ (s.slot i).step.kind ≠ .drain then (s, .refuse .state)
  else (s.endRepeat i, .done)

/-- STEP_DONE (R76). -/
def execStepDone (p : Port) (s : State) : Host.Outcome State Fault Refusal :=
  s.whenRunning (State.serve p .stepDone stepDoneBody)

/-- STEP_FAULT at the slot; its step index is not compared, and is held nowhere (R83, log 36). -/
def stepFaultBody : Body := atSlot fun i _ s => (s.abort i .valveFault, .done)

/-- STEP_FAULT (R83). -/
def execStepFault (p : Port) (s : State) : Host.Outcome State Fault Refusal :=
  s.whenRunning (State.serve p .stepFault stepFaultBody)

end Sys2Proof.Machine
end

