-- ==== Sys2Proof/Machine/ReadRequests.lean ====
section
/-! DEFINITION. The seven reading requests (R27, R42, R63, R89, R102, R131, R144, R146, R150). None changes
anything but the queues of the port. -/

namespace Sys2Proof.Machine

/-- READ_FILTER at the Filter Table (R27). -/
def readFilterBody : Body := fun _ pl s =>
  match filterOf (byteAt pl 0) with
  | none => (s, .refuse .range)
  | some f =>
    (s, .frames [encodeRecord (filterFields (s.filter f) s.filters.rawClass s.dueThreshold)])

/-- READ_FILTER (R27). -/
def execReadFilter (p : Port) (s : State) : Host.Outcome State Fault Refusal :=
  s.whenRunning (State.serve p .readFilter readFilterBody)

/-- READ_QUEUE at the Wash Queue (R42). -/
def readQueueBody : Body := fun _ pl s =>
  if 15 < byteAt pl 0 ∨ byteAt pl 1 = 0 ∨ 4 < byteAt pl 1 then (s, .refuse .range)
  else (s, .frames (s.queueFrames (byteAt pl 0) (byteAt pl 1)))

/-- READ_QUEUE (R42). -/
def execReadQueue (p : Port) (s : State) : Host.Outcome State Fault Refusal :=
  s.whenRunning (State.serve p .readQueue readQueueBody)

/-- READ_SLOTS (R63, R89, R102). -/
def readSlotsBody : Body := fun _ _ s => (s, .frames s.slotsFrames)

/-- READ_SLOTS (R63, R89, R102). -/
def execReadSlots (p : Port) (s : State) : Host.Outcome State Fault Refusal :=
  s.whenRunning (State.serve p .readSlots readSlotsBody)

/-- READ_MONITOR at the Supply Monitor (R131). -/
def readMonitorBody : Body := fun _ _ s => (s, .frames s.monitorFrames)

/-- READ_MONITOR (R131). -/
def execReadMonitor (p : Port) (s : State) : Host.Outcome State Fault Refusal :=
  s.whenRunning (State.serve p .readMonitor readMonitorBody)

/-- READ_JOURNAL at the Wash Journal (R146). -/
def readJournalBody : Body := fun _ pl s =>
  if byteAt pl 2 = 0 ∨ 8 < byteAt pl 2 then (s, .refuse .range)
  else (s, .frames (s.journal.frames (BitVec.ofNat 16 (word16At pl 0)) (byteAt pl 2)))

/-- READ_JOURNAL (R146). -/
def execReadJournal (p : Port) (s : State) : Host.Outcome State Fault Refusal :=
  s.whenRunning (State.serve p .readJournal readJournalBody)

/-- The page that a commit in progress writes, if there is one (R140). -/
def PageStore.committing (t : PageStore) : Option PageId := t.commit.map fun x => x.1.page

/-- READ_PAGE at the Page Store (R144). -/
def readPageBody : Body := fun p pl s =>
  let source := byteAt pl 1
  let part := byteAt pl 2
  match PageId.ofNumber (byteAt pl 0) with
  | none => (s, .refuse .range)
  | some g =>
    if 1 < source ∨ g.lastPart < part then (s, .refuse .range)
    else if source = 0 then
      if s.store.committing = some g then (s, .refuse .busy)
      else (s, .frames [s.store.pageHeader g source part ++ s.store.storedPart g part])
    else if s.store.latch ≠ some p then (s, .refuse .latch)
    else
      match s.store.staging with
      | none => (s, .refuse .latch)
      | some x =>
        if x.page ≠ g then (s, .refuse .state)
        else (s, .frames [s.store.pageHeader g source part ++ x.part part])

/-- READ_PAGE (R144). -/
def execReadPage (p : Port) (s : State) : Host.Outcome State Fault Refusal :=
  s.whenRunning (State.serve p .readPage readPageBody)

/-- READ_STATUS at the Status and Alert Unit (R150). -/
def readStatusBody : Body := fun _ _ s => (s, .frames [encodeRecord s.statusFields])

/-- READ_STATUS (R150). -/
def execReadStatus (p : Port) (s : State) : Host.Outcome State Fault Refusal :=
  s.whenRunning (State.serve p .readStatus readStatusBody)

end Sys2Proof.Machine
end

