-- ==== Sys2Proof/Machine/SupervisorRequests.lean ====
section
/-! DEFINITION. The supervisor's requests outside the Page Store: SET_CLASS, SET_PAUSE, CLOCK_SET,
CLEAR_STATUS and PEAK_RESET (R20, R49, R127, R148, R161, R162). -/

namespace Sys2Proof.Machine

/-- The class of a SET_CLASS: 0 NORMAL, 1 ELEVATED, 2 FLOOD (R162). -/
def classOf : Nat → Option RawClass
  | 0 => some .normal
  | 1 => some .elevated
  | 2 => some .flood
  | _ => none

/-- The effect of an accepted SET_CLASS; the class in force changes nothing (R20, R162). -/
def State.setClass (c : RawClass) (s : State) : State :=
  if c = s.filters.rawClass then s else (s.takeClass c).rotateFrom s.queue

/-- SET_CLASS at the Filter Table (R162). -/
def setClassBody : Body := fun _ pl s =>
  match classOf (byteAt pl 0) with
  | none => (s, .refuse .range)
  | some c => (s.setClass c, .done)

/-- SET_CLASS (R162). -/
def execSetClass (p : Port) (s : State) : Host.Outcome State Fault Refusal :=
  s.whenRunning (State.serve p .setClass setClassBody)

/-- The effect of an accepted SET_PAUSE; the pause state in force changes nothing (R49, R162). -/
def State.setPause (paused : Bool) (s : State) : State :=
  if paused = s.admission.paused then s
  else State.reconsider { s with admission := { s.admission with paused := paused } }

/-- SET_PAUSE at the Admission Unit: 0 PAUSE, 1 RESUME (R162). -/
def setPauseBody : Body := fun _ pl s =>
  if 1 < byteAt pl 0 then (s, .refuse .range) else (s.setPause (byteAt pl 0 == 0), .done)

/-- SET_PAUSE (R162). -/
def execSetPause (p : Port) (s : State) : Host.Outcome State Fault Refusal :=
  s.whenRunning (State.serve p .setPause setPauseBody)

/-- CLOCK_SET at the Timebase: the plant clock takes the value and forced waiting is evaluated (R161). -/
def clockSetBody : Body := fun _ pl s =>
  (State.evalForced { s with clock := BitVec.ofNat 32 (word32At pl 0) }, .done)

/-- CLOCK_SET (R161). -/
def execClockSet (p : Port) (s : State) : Host.Outcome State Fault Refusal :=
  s.whenRunning (State.serve p .clockSet clockSetBody)

/-- CLEAR_STATUS at the Status and Alert Unit (R148). -/
def clearStatusBody : Body := fun _ pl s =>
  ({ s with status := s.status.clear s.plant (BitVec.ofNat 10 (word16At pl 0)) }, .done)

/-- CLEAR_STATUS (R148). -/
def execClearStatus (p : Port) (s : State) : Host.Outcome State Fault Refusal :=
  s.whenRunning (State.serve p .clearStatus clearStatusBody)

/-- All three extremes become absent (R127). -/
def Monitor.peakReset (m : Monitor) : Monitor :=
  { m with
    tank := { m.tank with extreme := none }
    flow := { m.flow with extreme := none }
    basin := { m.basin with extreme := none } }

/-- PEAK_RESET at the Supply Monitor (R127). -/
def peakResetBody : Body := fun _ _ s => ({ s with monitor := s.monitor.peakReset }, .done)

/-- PEAK_RESET (R127). -/
def execPeakReset (p : Port) (s : State) : Host.Outcome State Fault Refusal :=
  s.whenRunning (State.serve p .peakReset peakResetBody)

end Sys2Proof.Machine
end

