-- ==== Sys2Proof/Machine/EditRequests.lean ====
section
/-! DEFINITION. The Page Store's requests and the completion of a commit (R135 to R142). -/

namespace Sys2Proof.Machine

/-- EDIT_OPEN at the Page Store (R135). -/
def editOpenBody : Body := fun p pl s =>
  match PageId.ofNumber (byteAt pl 0) with
  | none => (s, .refuse .range)
  | some g =>
    if s.store.commit.isSome then (s, .refuse .busy)
    else if s.store.latch.any (fun h => h != p) then (s, .refuse .latch)
    else
      ({ s with store := { s.store with latch := some p, staging := some (s.store.load g) } }, .done)

/-- EDIT_OPEN (R135). -/
def execEditOpen (p : Port) (s : State) : Host.Outcome State Fault Refusal :=
  s.whenRunning (State.serve p .editOpen editOpenBody)

/-- EDIT_WRITE at the Page Store: all items or none (R136). -/
def editWriteBody : Body := fun p pl s =>
  if s.store.latch ≠ some p then (s, .refuse .latch)
  else
    match s.store.staging with
    | none => (s, .refuse .latch)
    | some x =>
      match x.writeAll (editItems pl) with
      | none => (s, .refuse .range)
      | some y => ({ s with store := { s.store with staging := some y } }, .done)

/-- EDIT_WRITE (R136). -/
def execEditWrite (p : Port) (s : State) : Host.Outcome State Fault Refusal :=
  s.whenRunning (State.serve p .editWrite editWriteBody)

/-- EDIT_CLOSE at the Page Store (R137). -/
def editCloseBody : Body := fun p _ s =>
  if s.store.latch ≠ some p then (s, .refuse .latch)
  else ({ s with store := s.store.releaseLatch }, .done)

/-- EDIT_CLOSE (R137). -/
def execEditClose (p : Port) (s : State) : Host.Outcome State Fault Refusal :=
  s.whenRunning (State.serve p .editClose editCloseBody)

/-- COMMIT at the Page Store (R138). -/
def commitBody : Body := fun p _ s =>
  if s.store.commit.isSome then (s, .refuse .busy)
  else if s.store.latch ≠ some p then (s, .refuse .latch)
  else
    match s.store.staging with
    | none => (s, .refuse .latch)
    | some x =>
      if x.locked s.plant then (s, .refuse .locked)
      else if x.consistent then (s.startCommit p x, .done)
      else (s, .refuse .consistency)

/-- COMMIT (R138). -/
def execCommit (p : Port) (s : State) : Host.Outcome State Fault Refusal :=
  s.whenRunning (State.serve p .commit commitBody)

/-- COMMIT_COMPLETION: the commit timer expires (R141, R142); with no commit in progress nothing expires
(log 1). -/
def execCommitCompletion (s : State) : Host.Outcome State Fault Refusal :=
  s.whenRunning fun t => t.completeCommit.offerAll

end Sys2Proof.Machine
end

