-- ==== Sys2Proof/Machine/NoticeEvents.lean ====
section
/-! DEFINITION. An owed notice entering an outbound queue (R69, R88, R141, R158). Where the notice is not
owed, has no port, or finds no free place, nothing enters (log 1). -/

namespace Sys2Proof.Machine

/-- A slot notice of a given kind enters, if the slot owes that kind (R69). -/
def State.enterSlotNotice (kind : SlotNotice) (i : SlotId) (s : State) : State :=
  if (s.slot i).noticeOwed = some kind then s.enterNotice (.slot i) else s

/-- STEP_SET enters the covering port's queue, and the valve timer starts (R69). -/
def execStepSet (i : SlotId) (s : State) : Host.Outcome State Fault Refusal :=
  s.whenRunning (State.enterSlotNotice .stepSet i)

/-- STEP_RUN enters the covering port's queue (R69). -/
def execStepRun (i : SlotId) (s : State) : Host.Outcome State Fault Refusal :=
  s.whenRunning (State.enterSlotNotice .stepRun i)

/-- WASH_END of a filter enters the covering port's queue, and end owed is cleared (R88). -/
def execWashEnd (f : FilterNo) (s : State) : Host.Outcome State Fault Refusal :=
  s.whenRunning (State.enterNotice (.washEnd f))

/-- COMMIT_DONE enters the queue of the port that started the commit (R141). -/
def execCommitDone (s : State) : Host.Outcome State Fault Refusal :=
  s.whenRunning (State.enterNotice .commitDone)

end Sys2Proof.Machine
end

