-- ==== Sys2Proof/Machine/TimeEvents.lean ====
section
/-! DEFINITION. The minute event and the expiries of the spacing timer and of the slots' timers. An expiry
acts where its timer runs, whatever time it has left (log 3); a stopped timer does not expire (log 1). -/

namespace Sys2Proof.Machine

/-- MINUTE_EVENT (R161). -/
def execMinuteEvent (s : State) : Host.Outcome State Fault Refusal :=
  s.whenRunning fun t => t.minute.offerAll

/-- SPACING_TIMER_EXPIRY (R50). -/
def execSpacingTimerExpiry (s : State) : Host.Outcome State Fault Refusal :=
  s.whenRunning fun t => t.spacingExpiry.offerAll

/-- VALVE_TIMER_EXPIRY (R70). -/
def execValveTimerExpiry (i : SlotId) (s : State) : Host.Outcome State Fault Refusal :=
  s.whenRunning fun t => (t.valveExpiry i).offerAll

/-- SUPPLY_WAIT_EXPIRY (R111). -/
def execSupplyWaitExpiry (i : SlotId) (s : State) : Host.Outcome State Fault Refusal :=
  s.whenRunning fun t => (t.supplyWaitExpiry i).offerAll

/-- STEP_TIMER_EXPIRY (R75). -/
def execStepTimerExpiry (i : SlotId) (s : State) : Host.Outcome State Fault Refusal :=
  s.whenRunning fun t => (t.stepExpiry i).offerAll

/-- CLEAR_HOLD_EXPIRY (R82). -/
def execClearHoldExpiry (i : SlotId) (s : State) : Host.Outcome State Fault Refusal :=
  s.whenRunning fun t => (t.clearHoldExpiry i).offerAll

/-- RAMP_TIMER_EXPIRY (R100). -/
def execRampTimerExpiry (i : SlotId) (s : State) : Host.Outcome State Fault Refusal :=
  s.whenRunning fun t => (t.rampExpiry i).offerAll

/-- SHORTFALL_TIMER_EXPIRY (R108). -/
def execShortfallTimerExpiry (i : SlotId) (s : State) : Host.Outcome State Fault Refusal :=
  s.whenRunning fun t => (t.shortfallExpiry i).offerAll

/-- RESETTLE_TIMER_EXPIRY (R110). -/
def execResettleTimerExpiry (i : SlotId) (s : State) : Host.Outcome State Fault Refusal :=
  s.whenRunning fun t => (t.resettleExpiry i).offerAll

/-- HALT_TIMER_EXPIRY (R117). -/
def execHaltTimerExpiry (i : SlotId) (s : State) : Host.Outcome State Fault Refusal :=
  s.whenRunning fun t => (t.haltExpiry i).offerAll

end Sys2Proof.Machine
end

