-- ==== Sys2Proof/Machine/PlantEvents.lean ====
section
/-! DEFINITION. The plant's events: converter samples, window completions, an admission and a grant (R57,
R95, R120, R122). -/

namespace Sys2Proof.Machine

/-- CHANNEL_SAMPLE (R120). -/
def execChannelSample (c : Channel) (reading : BitVec 12) (s : State) :
    Host.Outcome State Fault Refusal :=
  s.whenRunning fun t => (t.sample c reading).offerAll

/-- WINDOW_COMPLETION: the sample that completes a window, taken where this reading completes it (R122,
log 16). -/
def execWindowCompletion (c : Channel) (reading : BitVec 12) (s : State) :
    Host.Outcome State Fault Refusal :=
  s.whenRunning fun t => if t.completes c reading then (t.sample c reading).offerAll else t

/-- The candidate is present and every condition of admission holds for it (R47). -/
def State.admissible (s : State) : Bool :=
  match s.admission.candidate with
  | none => false
  | some f =>
    match s.verdict f with
    | .fits _ => true
    | .waits _ _ => false

/-- ADMISSION: an examination that finds every condition met admits the candidate; with no such candidate
nothing is admitted (R57, log 16). -/
def execAdmission (s : State) : Host.Outcome State Fault Refusal :=
  s.whenRunning fun t => if t.admissible then ((t.examine 3).evalRotation).offerAll else t

/-- The request that a grant pass would satisfy first (R93, R94). -/
def Arbiter.firstGrantable (a : Arbiter) : Option Request :=
  a.requests.find? fun r => a.grantable r.set

/-- GRANT: the waiting request of a slot is satisfied whole, where it is the first in ticket order that is
grantable; otherwise no grant is made (R94, R95, log 16). -/
def execGrant (i : SlotId) (s : State) : Host.Outcome State Fault Refusal :=
  s.whenRunning fun t =>
    match t.arbiter.firstGrantable with
    | some r => if r.slot = i then (t.grantRequest r).offerAll else t
    | none => t

end Sys2Proof.Machine
end

