-- ==== Sys2Proof/Machine/Dispatch.lean ====
section
/-! DEFINITION. The meaning of each command: one arm per row of `spec/opcode_table.json`. -/

namespace Sys2Proof.Machine

def exec (i : Instr) (s : State) : Host.Outcome State Fault Refusal :=
  match i with
  | .powerOnReset => Sys2Proof.Machine.execPowerOnReset s
  | .resetLine => Sys2Proof.Machine.execResetLine s
  | .startUp b1 b0 => Sys2Proof.Machine.execStartUp b1 b0 s
  | .frameArrival p bytes => Sys2Proof.Machine.execFrameArrival p bytes s
  | .frameDeparture p => Sys2Proof.Machine.execFrameDeparture p s
  | .silenceTimerExpiry p => Sys2Proof.Machine.execSilenceTimerExpiry p s
  | .unknownRequest p => Sys2Proof.Machine.execUnknownRequest p s
  | .attach p => Sys2Proof.Machine.execAttach p s
  | .detach p => Sys2Proof.Machine.execDetach p s
  | .ping p => Sys2Proof.Machine.execPing p s
  | .report p => Sys2Proof.Machine.execReport p s
  | .filterMode p => Sys2Proof.Machine.execFilterMode p s
  | .washRequest p => Sys2Proof.Machine.execWashRequest p s
  | .washWithdraw p => Sys2Proof.Machine.execWashWithdraw p s
  | .washAbort p => Sys2Proof.Machine.execWashAbort p s
  | .stepReady p => Sys2Proof.Machine.execStepReady p s
  | .stepDone p => Sys2Proof.Machine.execStepDone p s
  | .stepFault p => Sys2Proof.Machine.execStepFault p s
  | .readFilter p => Sys2Proof.Machine.execReadFilter p s
  | .readQueue p => Sys2Proof.Machine.execReadQueue p s
  | .readSlots p => Sys2Proof.Machine.execReadSlots p s
  | .readMonitor p => Sys2Proof.Machine.execReadMonitor p s
  | .readJournal p => Sys2Proof.Machine.execReadJournal p s
  | .readPage p => Sys2Proof.Machine.execReadPage p s
  | .readStatus p => Sys2Proof.Machine.execReadStatus p s
  | .setClass p => Sys2Proof.Machine.execSetClass p s
  | .setPause p => Sys2Proof.Machine.execSetPause p s
  | .clockSet p => Sys2Proof.Machine.execClockSet p s
  | .clearStatus p => Sys2Proof.Machine.execClearStatus p s
  | .peakReset p => Sys2Proof.Machine.execPeakReset p s
  | .editOpen p => Sys2Proof.Machine.execEditOpen p s
  | .editWrite p => Sys2Proof.Machine.execEditWrite p s
  | .editClose p => Sys2Proof.Machine.execEditClose p s
  | .commit p => Sys2Proof.Machine.execCommit p s
  | .commitCompletion => Sys2Proof.Machine.execCommitCompletion s
  | .stepSet slot => Sys2Proof.Machine.execStepSet slot s
  | .stepRun slot => Sys2Proof.Machine.execStepRun slot s
  | .washEnd f => Sys2Proof.Machine.execWashEnd f s
  | .commitDone => Sys2Proof.Machine.execCommitDone s
  | .minuteEvent => Sys2Proof.Machine.execMinuteEvent s
  | .channelSample c r => Sys2Proof.Machine.execChannelSample c r s
  | .windowCompletion c r => Sys2Proof.Machine.execWindowCompletion c r s
  | .admission => Sys2Proof.Machine.execAdmission s
  | .spacingTimerExpiry => Sys2Proof.Machine.execSpacingTimerExpiry s
  | .valveTimerExpiry slot => Sys2Proof.Machine.execValveTimerExpiry slot s
  | .supplyWaitExpiry slot => Sys2Proof.Machine.execSupplyWaitExpiry slot s
  | .stepTimerExpiry slot => Sys2Proof.Machine.execStepTimerExpiry slot s
  | .clearHoldExpiry slot => Sys2Proof.Machine.execClearHoldExpiry slot s
  | .rampTimerExpiry slot => Sys2Proof.Machine.execRampTimerExpiry slot s
  | .shortfallTimerExpiry slot => Sys2Proof.Machine.execShortfallTimerExpiry slot s
  | .resettleTimerExpiry slot => Sys2Proof.Machine.execResettleTimerExpiry slot s
  | .haltTimerExpiry slot => Sys2Proof.Machine.execHaltTimerExpiry slot s
  | .grant slot => Sys2Proof.Machine.execGrant slot s
  | .discardedFrame p bytes gap => Sys2Proof.Machine.execDiscardedFrame p bytes gap s

end Sys2Proof.Machine
end

