-- ==== Sys2Proof/Machine/Clock.lean ====
section
/-! DEFINITION. A second of plant time (R161 and the timers of every chapter): what passes when no command
is waiting (log 2). -/

namespace Sys2Proof.Machine

/-! ### Timers count down -/

/-- A running timer one second later. -/
def Timer.tick (t : Timer) : Timer := Option.map (fun n => n - 1) t

/-- The clear-hold timer one second later; a frozen one does not count down (R81). -/
def ClearHold.tick : ClearHold → ClearHold
  | .stopped => .stopped
  | .running n => .running (n - 1)
  | .frozen n => .frozen n

/-- A slot one second later: its timers count down, and step elapsed rises while the step timer runs
(R74). -/
def Slot.tick (x : Slot) : Slot :=
  { x with
    valveTimer := Timer.tick x.valveTimer
    stepTimer := Timer.tick x.stepTimer
    supplyWait := Timer.tick x.supplyWait
    rampTimer := Timer.tick x.rampTimer
    shortfall := Timer.tick x.shortfall
    resettle := Timer.tick x.resettle
    haltTimer := Timer.tick x.haltTimer
    clearHold := x.clearHold.tick
    stepElapsed := if x.stepTimer.isSome then x.stepElapsed + 1 else x.stepElapsed }

/-- A port one second later: its silence timer counts down (R157). -/
def PortRec.tick (r : PortRec) : PortRec := { r with silenceTimer := Timer.tick r.silenceTimer }

/-- Every timer and the seconds count one second later, before anything that is then due. -/
def State.countDown (s : State) : State :=
  { s with
    ports := ⟨s.ports.p0.tick, s.ports.p1.tick, s.ports.p2.tick, s.ports.p3.tick⟩
    admission := { s.admission with spacing := Timer.tick s.admission.spacing }
    slotA := s.slotA.tick
    slotB := s.slotB.tick
    seconds := s.seconds + 1 }

/-! ### What is due -/

/-- The timers of a slot. -/
inductive SlotTimer where
  | valve | supplyWait | step | clearHold | ramp | shortfall | resettle | halt
deriving DecidableEq, Repr

/-- What the passing of a second can bring about. -/
inductive Due where
  | minute
  | silence (p : Port)
  | spacing
  | slot (k : SlotTimer) (i : SlotId)
  | commit
deriving DecidableEq, Repr

/-- The slot timers, in one order. -/
def allSlotTimers : List SlotTimer :=
  [.valve, .supplyWait, .step, .clearHold, .ramp, .shortfall, .resettle, .halt]

/-- Everything that can be due, in one order. -/
def allDue : List Due :=
  [.minute, .commit, .spacing] ++ allPorts.map Due.silence ++
    allSlotTimers.map (fun k => Due.slot k .a) ++ allSlotTimers.map (fun k => Due.slot k .b)

/-- A slot timer stands at zero. -/
def Slot.timerDue (x : Slot) : SlotTimer → Bool
  | .valve => x.valveTimer == some 0
  | .supplyWait => x.supplyWait == some 0
  | .step => x.stepTimer == some 0
  | .clearHold => x.clearHold == .running 0
  | .ramp => x.rampTimer == some 0
  | .shortfall => x.shortfall == some 0
  | .resettle => x.resettle == some 0
  | .halt => x.haltTimer == some 0

/-- A timer stands at zero, the seconds count has reached 60, or a commit is in progress, whose timer
expires within 150 ms (R140, R161). -/
def State.isDue (s : State) : Due → Bool
  | .minute => decide (60 ≤ s.seconds)
  | .silence p => (s.port p).silenceTimer == some 0
  | .spacing => s.admission.spacing == some 0
  | .slot k i => (s.slot i).timerDue k
  | .commit => s.store.commit.isSome

/-- Everything that is due. -/
def State.dueNow (s : State) : List Due := allDue.filter s.isDue

/-- The expiry of a slot timer (R70, R75, R82, R100, R108, R110, R111, R117). -/
def State.slotTimerExpiry (k : SlotTimer) (i : SlotId) (s : State) : State :=
  match k with
  | .valve => s.valveExpiry i
  | .supplyWait => s.supplyWaitExpiry i
  | .step => s.stepExpiry i
  | .clearHold => s.clearHoldExpiry i
  | .ramp => s.rampExpiry i
  | .shortfall => s.shortfallExpiry i
  | .resettle => s.resettleExpiry i
  | .halt => s.haltExpiry i

/-- One due thing is taken as an event. -/
def State.takeDue (d : Due) (s : State) : State :=
  match d with
  | .minute => s.minute
  | .silence p => s.silenceExpiry p
  | .spacing => s.spacingExpiry
  | .slot k i => s.slotTimerExpiry k i
  | .commit => s.completeCommit

/-- What is due is taken one at a time; where several are due, any of them may be taken first (log 4). -/
def State.runDue : Nat → State → State
  | 0, s => s
  | n + 1, s =>
    match s.dueNow with
    | [] => s
    | [d] => (s.takeDue d).offerAll.runDue n
    | d :: e :: rest =>
      (s.chosen.takeDue ((d :: e :: rest).getD (s.choice % (rest.length + 2)) d)).offerAll.runDue n

/-- A second of plant time passes: the counts advance, then everything due is taken. There are
twenty-three things that can be due. No time passes for a part held in reset. -/
def State.tick (s : State) : State := if s.inReset then s else s.countDown.runDue 23

end Sys2Proof.Machine
end

