-- ==== Sys2Proof/Safety.lean ====
section
/-! DEFINITION. What a safe run keeps: the agreements between the blocks that the manual's rules state, the
ranges of the pages, and the words in which the statements speak of requests, answers and ended washes. -/

namespace Sys2Proof.Machine

/-! ### Agreements -/

/-- The supply outputs and the monitor's view follow the grants; WATER_DEMAND is 0 without a water holder,
and else the demand of the holder's current step at its ramp position (R98, R99, R128). -/
def State.GrantsAgree (s : State) : Prop :=
  s.arbiter.blowerRun = s.arbiter.airHolder.isSome ∧
    s.monitor.waterView = s.arbiter.waterHolder ∧
    (s.arbiter.waterHolder = none → s.arbiter.waterDemand = 0) ∧
    ∀ i : SlotId, s.arbiter.waterHolder = some i →
      s.arbiter.waterDemand =
        (s.slot i).demands.getD (s.slot i).stepIndex 0 * (s.slot i).rampK / 16

/-- No step demand of a wash exceeds its pump capacity copy, the ramp position is at most 16 and below it
while the ramp timer runs, and WATER_DEMAND is within the holder's copy (R52, R99, R100). -/
def State.DemandsBounded (s : State) : Prop :=
  (∀ i : SlotId, (∀ d ∈ (s.slot i).demands, d ≤ (s.slot i).pumpCopy) ∧ (s.slot i).rampK ≤ 16 ∧
    ((s.slot i).rampTimer.isSome = true → (s.slot i).rampK < 16)) ∧
  ∀ i : SlotId, s.arbiter.waterHolder = some i → s.arbiter.waterDemand ≤ (s.slot i).pumpCopy

/-- The queue stands in the order of R29, with at most one entry for a filter (R28). The unwrapped join
numbers of its entries differ and none lies ahead of the counter (log 15). -/
def WashQueue.Ordered (q : WashQueue) : Prop :=
  q.entries.Pairwise (fun a b => a.before b = true ∧ a.filter ≠ b.filter ∧ a.order ≠ b.order) ∧
    ∀ e ∈ q.entries, e.order ≤ q.joins

/-- Every queued filter is in STANDBY or SERVICE, and a filter in one of these has a standing other than
OUT (R21, R28). -/
def State.QueuedFilters (s : State) : Prop :=
  (∀ e ∈ s.queue.entries,
    (s.filter e.filter).state = .standby ∨ (s.filter e.filter).state = .service) ∧
  ∀ f : FilterNo,
    (s.filter f).state = .standby ∨ (s.filter f).state = .service → (s.filter f).standing ≠ .out

/-- The filters in SERVICE. -/
def State.inService (s : State) : List FilterNo :=
  allFilters.filter fun f => (s.filter f).state == .service

/-- Both service counts equal the number of filters in SERVICE (R3). -/
def State.ServiceCounted (s : State) : Prop :=
  s.filters.serviceCount = s.inService.length ∧ s.queue.serviceCount = s.inService.length

/-- The candidate is the first eligible entry, and the Admission Unit has been told of it (R40, R45). -/
def State.CandidateCurrent (s : State) : Prop :=
  s.queue.candidate = s.firstEligible ∧ s.admission.candidate = s.queue.candidate

/-- At most 32 records, numbered consecutively from the oldest (R145). -/
def Journal.Consecutive (j : Journal) : Prop :=
  j.records.length ≤ 32 ∧
    ∀ (n : Nat) (h : n < j.records.length),
      (j.records[n]).sequence = j.oldest + BitVec.ofNat 16 n

/-- Every queue of every port is within its bound, and every outbound payload fits a frame (R151,
R152). -/
def State.PortsFit (s : State) : Prop :=
  ∀ p : Port, (s.port p).inbound.length ≤ 4 ∧ (s.port p).outbound.length ≤ 8 ∧
    ∀ fr ∈ (s.port p).outbound, fr.payload.length ≤ 60

/-- The edit latch is held only by a port attached in SUPERVISOR role, the staging page stands exactly
while it is held, and it is free during a commit (R137, R140). -/
def State.LatchSupervised (s : State) : Prop :=
  (∀ p : Port, s.store.latch = some p → (s.port p).role = some .supervisor) ∧
    s.store.staging.isSome = s.store.latch.isSome ∧
    (s.store.commit.isSome = true → s.store.latch = none)

/-- Bounds stand at gallery ports alone, the silence timer runs exactly at attached ports, no two gallery
ports share a filter, and the queue's covered set is what the ports cover (R39, R151, R157). -/
def State.PortsApart (s : State) : Prop :=
  (∀ p : Port, ((s.port p).bounds.isSome = ((s.port p).role == some .gallery)) ∧
    (s.port p).silenceTimer.isSome = (s.port p).attached) ∧
  (∀ (p q : Port) (b c : Bounds), p ≠ q → (s.port p).bounds = some b → (s.port q).bounds = some c →
    b.shares c = false) ∧
  s.queue.covered = s.coverage

/-- The alert lines are what the masks, the modes and the copies of the flags make them, and a flag with
its live copy true is latched (R147, R149). -/
def State.AlertsFollow (s : State) : Prop :=
  s.status.alert0 = alertLine s.plant.alert0Mask s.plant.alert0Mode s.status ∧
    s.status.alert1 = alertLine s.plant.alert1Mask s.plant.alert1Mode s.status ∧
    s.status.live &&& ~~~s.status.latched = 0

/-- Outside a reset, the live copies are the conditions of their owners (R147): the six of Table 9-1 (log
27). -/
def State.LiveCopies (s : State) : Prop :=
  s.inReset = false →
    s.status.live.getLsbD Flag.tankLow.bit = s.monitor.tankLow ∧
    s.status.live.getLsbD Flag.basinFull.bit = s.monitor.basinFull ∧
    s.status.live.getLsbD Flag.signalFault.bit = s.monitor.signalFault ∧
    s.status.live.getLsbD Flag.rotationStalled.bit = s.admission.rotationStalled ∧
    s.status.live.getLsbD Flag.forcedWaiting.bit = s.admission.forcedWaiting ∧
    s.status.live.getLsbD Flag.pageInvalid.bit = s.store.pageInvalid

/-- The page status at the queue is what the Page Store holds: COMMITTING for the target of a commit in
progress, USABLE or INVALID for another page by its validity (R39, R140, R141). -/
def State.PageStatusCurrent (s : State) : Prop :=
  (∀ g : Fin 8, s.queue.pageStatus[g] =
    if s.store.committing = some (.programme g) then .committing
    else (s.store.programmes[g]).status) ∧
  s.queue.plantCommitting = (s.store.committing == some .plant)

/-! ### The washes -/

/-- The states in which each timer of a slot may run (Table 4-4). -/
def Slot.TimersInState (x : Slot) : Prop :=
  (x.valveTimer.isSome = true → x.state = .setup) ∧
  (x.supplyWait.isSome = true → x.state = .waitSupply) ∧
  (x.stepTimer.isSome = true ∨ x.rampTimer.isSome = true ∨ x.shortfall.isSome = true ∨
    x.clearHold ≠ .stopped → x.state = .run) ∧
  (x.resettle.isSome = true → x.state = .resettle) ∧
  (x.haltTimer.isSome = true → x.state = .halt)

/-- The slot holds exactly the grants that its step needs while it is in RUN, and none in any other state
(Table 4-2, R96). -/
def State.GrantsInRun (s : State) (i : SlotId) : Prop :=
  s.arbiter.holdsAir i =
      ((s.slot i).state == .run && (s.slot i).step.kind.needs.any SupplySet.hasAir) ∧
    s.arbiter.holdsWater i =
      ((s.slot i).state == .run && (s.slot i).step.kind.needs.any SupplySet.hasWater)

/-- The slot has a request in the arbiter's list exactly while it is in WAIT_SUPPLY, for the whole set of
its step and under its ticket (R72, R91). -/
def State.RequestInWait (s : State) (i : SlotId) : Prop :=
  (s.arbiter.requests.any (fun r => r.slot == i) = ((s.slot i).state == .waitSupply)) ∧
    ∀ r ∈ s.arbiter.requests, r.slot = i →
      r.ticket = (s.slot i).ticket ∧ (s.slot i).step.kind.needs = some r.set

/-- The number of active slots (R48). -/
def State.activeSlots (s : State) : Nat :=
  (if s.slotA.state = .idle then 0 else 1) + (if s.slotB.state = .idle then 0 else 1)

/-- The two slots, the filters in WASH, the grants, the requests and the active count agree: an IDLE slot
stands at its reset values (R66), an active one holds a filter in WASH, and every filter in WASH is held by
exactly one (R6). -/
def State.WashesAgree (s : State) : Prop :=
  (∀ i : SlotId,
    ((s.slot i).state = .idle → s.slot i = Slot.atReset) ∧
    ((s.slot i).state ≠ .idle →
      ∃ f, (s.slot i).filter = some f ∧ (s.filter f).state = .wash) ∧
    (s.slot i).TimersInState ∧ s.GrantsInRun i ∧ s.RequestInWait i) ∧
  (∀ f : FilterNo, (s.filter f).state = .wash → (s.holdingSlot f).isSome = true) ∧
  (s.slotA.filter.isSome = true → s.slotA.filter ≠ s.slotB.filter) ∧
  (s.arbiter.requests.map Request.slot).Nodup ∧
  s.admission.activeCount = s.activeSlots

/-! ### Pages in range -/

/-- A step record inside the ranges of Table 4-1 for its kind (R64). -/
def StepRec.InRange (x : StepRec) : Prop :=
  (10 ≤ x.duration ∧ x.duration ≤ 1800) ∧ (1 ≤ x.repeats ∧ x.repeats ≤ 8) ∧
  (if x.kind.isWater then 1 ≤ x.rate ∧ x.rate ≤ 900 else x.rate = 0) ∧
  (if x.kind = .waste then
    (20 ≤ x.ripenLimit ∧ x.ripenLimit ≤ 1000) ∧ (30 ≤ x.clearHold ∧ x.clearHold ≤ 600)
   else x.ripenLimit = 0 ∧ x.clearHold = 0)

/-- The four properties that every stored programme has (R64). -/
def ProgrammeSound (steps : List StepRec) : Prop :=
  (1 ≤ steps.length ∧ steps.length ≤ 12) ∧ (∀ x ∈ steps, x.InRange) ∧
  (∀ x ∈ steps.dropLast, x.kind ≠ .waste) ∧ ∃ x ∈ steps, x.kind.isWater = true

/-- A staged step record inside the ranges that EDIT_WRITE accepts (R136). -/
def StepRec.Staged (x : StepRec) : Prop :=
  (10 ≤ x.duration ∧ x.duration ≤ 1800) ∧ (1 ≤ x.repeats ∧ x.repeats ≤ 8) ∧ x.rate ≤ 900 ∧
  (x.kind.isWater = false → x.rate = 0) ∧
  (x.kind ≠ .waste → x.ripenLimit = 0 ∧ x.clearHold = 0) ∧
  (x.ripenLimit = 0 ∨ 20 ≤ x.ripenLimit ∧ x.ripenLimit ≤ 1000) ∧
  (x.clearHold = 0 ∨ 30 ≤ x.clearHold ∧ x.clearHold ≤ 600)

/-- The per-filter fields inside the ranges of Table 8-3. -/
def FilterCfg.InRange (c : FilterCfg) : Prop :=
  (50 ≤ c.area ∧ c.area ≤ 3000) ∧ (100 ≤ c.headlossLimit ∧ c.headlossLimit ≤ 3000) ∧
  (50 ≤ c.turbidityLimit ∧ c.turbidityLimit ≤ 5000) ∧ (60 ≤ c.runLimit ∧ c.runLimit ≤ 10080)

/-- The channel fields inside the ranges of Table 8-3. -/
def ChannelCfg.InRange (c : ChannelCfg) : Prop :=
  c.exponent ≤ 6 ∧ c.zero ≤ 9999 ∧ 1 ≤ c.span ∧ c.span ≤ 9999

/-- The numbers of a plant page inside the ranges of Table 8-3. -/
def PlantPage.InRange (q : PlantPage) : Prop :=
  (∀ f : FilterNo, (q.filters[f]).InRange) ∧
  (∀ c : RawClass, 64 ≤ q.threshold c ∧ q.threshold c ≤ 255) ∧
  (1 ≤ q.staleLimit ∧ q.staleLimit ≤ 60) ∧ q.floor ≤ 16 ∧
  (1 ≤ q.maxConcurrent ∧ q.maxConcurrent ≤ 2) ∧ q.startSpacing ≤ 3600 ∧
  (50 ≤ q.pumpCapacity ∧ q.pumpCapacity ≤ 9999) ∧
  (100 ≤ q.tankArea ∧ q.tankArea ≤ 20000) ∧ q.reserveLevel ≤ 9999 ∧
  (100 ≤ q.basinArea ∧ q.basinArea ≤ 20000) ∧ q.basinMaximum ≤ 9999 ∧
  (5 ≤ q.stallLimit ∧ q.stallLimit ≤ 240) ∧ (5 ≤ q.valveTravel ∧ q.valveTravel ≤ 300) ∧
  (1 ≤ q.rampStart ∧ q.rampStart ≤ 16) ∧ (1 ≤ q.rampInterval ∧ q.rampInterval ≤ 10) ∧
  (50 ≤ q.lowFlow ∧ q.lowFlow ≤ 95) ∧ (5 ≤ q.flowGrace ∧ q.flowGrace ≤ 60) ∧
  (60 ≤ q.supplyWaitLimit ∧ q.supplyWaitLimit ≤ 1800) ∧ (30 ≤ q.haltLimit ∧ q.haltLimit ≤ 900) ∧
  (∀ c : Channel, (q.channelCfg c).InRange) ∧
  q.tankLowLow ≤ 9999 ∧ q.refillOn ≤ 9999 ∧ q.refillOff ≤ 9999

/-- A plant page that a commit may store: in range, and consistent by the checks of R139. -/
def PlantPage.Sound (q : PlantPage) : Prop :=
  q.InRange ∧ q.thresholdElevated ≤ q.thresholdNormal ∧ q.thresholdFlood ≤ q.thresholdElevated ∧
    q.tankLowLow < q.reserveLevel ∧ q.refillOn < q.refillOff

/-- A staging page holds only what EDIT_OPEN loads and EDIT_WRITE accepts (R135, R136). -/
def Staged.InRange : Staged → Prop
  | .programme _ count steps =>
    (1 ≤ count ∧ count ≤ 12) ∧ steps.length = 12 ∧ ∀ x ∈ steps, x.Staged
  | .plant q => q.InRange

/-- What a commit writes has passed the checks of R139. -/
def CommitTarget.Sound : CommitTarget → Prop
  | .programme _ steps => ProgrammeSound steps
  | .plant q => q.Sound

/-- Every page that is VALID, or that a revalidation could find VALID, holds a content that passed its
checks, and so do the staging page and the commit in progress (R64, R136, R139). -/
def PageStore.Sound (t : PageStore) : Prop :=
  (∀ g : Fin 8, (t.programmes[g]).marker = false ∨ (t.programmes[g]).valid = true →
    ProgrammeSound (t.programmes[g]).steps) ∧
  (t.plant.marker = false ∨ t.plant.valid = true → t.plant.content.Sound) ∧
  (∀ x ∈ t.staging, x.InRange) ∧
  ∀ x ∈ t.commit, x.1.Sound

/-- The programme copy of an active slot has the properties of R64, and its position in it is a step of
the copy with between one and all of that step's repeats left (R66, R68). -/
def Slot.CopySound (x : Slot) : Prop :=
  x.state ≠ .idle →
    ProgrammeSound x.programme ∧ x.stepIndex < x.programme.length ∧
    1 ≤ x.repeatsLeft ∧ x.repeatsLeft ≤ x.step.repeats

/-! ### What an EDIT_WRITE item writes -/

/-- A step field is written: its identifier, a value in the range of R136, the step before and after. A kind
sets to 0 what has no meaning for it. -/
inductive StepRec.Writes : Nat → Nat → StepRec → StepRec → Prop where
  | kind (x : StepRec) (k : StepKind) : Writes 2 k.code x
      ⟨k, x.duration, if k = .airWater ∨ k = .water then x.rate else 0, x.repeats,
        if k = .waste then x.ripenLimit else 0, if k = .waste then x.clearHold else 0⟩
  | duration (x : StepRec) (v : Nat) : 10 ≤ v → v ≤ 1800 → Writes 3 v x { x with duration := v }
  | rate (x : StepRec) (v : Nat) : v ≤ 900 → v = 0 ∨ x.kind = .airWater ∨ x.kind = .water →
      Writes 4 v x { x with rate := v }
  | repeats (x : StepRec) (v : Nat) : 1 ≤ v → v ≤ 8 → Writes 5 v x { x with repeats := v }
  | ripenLimit (x : StepRec) (v : Nat) : v = 0 ∨ x.kind = .waste ∧ 20 ≤ v ∧ v ≤ 1000 →
      Writes 6 v x { x with ripenLimit := v }
  | clearHold (x : StepRec) (v : Nat) : v = 0 ∨ x.kind = .waste ∧ 30 ≤ v ∧ v ≤ 600 →
      Writes 7 v x { x with clearHold := v }

/-- A per-filter field of Table 8-3 is written (rows 1 to 6); a yes is 1 (log 13). -/
inductive FilterCfg.Writes : Nat → Nat → FilterCfg → FilterCfg → Prop where
  | present (c : FilterCfg) (b : Bool) : Writes 1 (if b then 1 else 0) c { c with present := b }
  | area (c : FilterCfg) (v : Nat) : 50 ≤ v → v ≤ 3000 → Writes 2 v c { c with area := v }
  | programme (c : FilterCfg) (g : Fin 8) : Writes 3 g.val c { c with programme := g }
  | headlossLimit (c : FilterCfg) (v : Nat) : 100 ≤ v → v ≤ 3000 →
      Writes 4 v c { c with headlossLimit := v }
  | turbidityLimit (c : FilterCfg) (v : Nat) : 50 ≤ v → v ≤ 5000 →
      Writes 5 v c { c with turbidityLimit := v }
  | runLimit (c : FilterCfg) (v : Nat) : 60 ≤ v → v ≤ 10080 → Writes 6 v c { c with runLimit := v }

/-- A channel field of Table 8-3 is written (rows 26 to 28). -/
inductive ChannelCfg.Writes : Nat → Nat → ChannelCfg → ChannelCfg → Prop where
  | exponent (g : ChannelCfg) (v : Nat) : v ≤ 6 → Writes 26 v g { g with exponent := v }
  | zero (g : ChannelCfg) (v : Nat) : v ≤ 9999 → Writes 27 v g { g with zero := v }
  | span (g : ChannelCfg) (v : Nat) : 1 ≤ v → v ≤ 9999 → Writes 28 v g { g with span := v }

/-- A row of Table 8-3 with one value is written: its number, a value in its range, the page before and
after (R136). The numbers of the lock mask's bits are log 32. -/
inductive PlantPage.WritesRow : Nat → Nat → PlantPage → PlantPage → Prop where
  | staleLimit (q : PlantPage) (v : Nat) : 1 ≤ v → v ≤ 60 → WritesRow 8 v q { q with staleLimit := v }
  | floor (q : PlantPage) (v : Nat) : v ≤ 16 → WritesRow 9 v q { q with floor := v }
  | maxConcurrent (q : PlantPage) (v : Nat) : 1 ≤ v → v ≤ 2 →
      WritesRow 10 v q { q with maxConcurrent := v }
  | startSpacing (q : PlantPage) (v : Nat) : v ≤ 3600 → WritesRow 11 v q { q with startSpacing := v }
  | pumpCapacity (q : PlantPage) (v : Nat) : 50 ≤ v → v ≤ 9999 →
      WritesRow 12 v q { q with pumpCapacity := v }
  | tankArea (q : PlantPage) (v : Nat) : 100 ≤ v → v ≤ 20000 →
      WritesRow 13 v q { q with tankArea := v }
  | reserveLevel (q : PlantPage) (v : Nat) : v ≤ 9999 → WritesRow 14 v q { q with reserveLevel := v }
  | basinArea (q : PlantPage) (v : Nat) : 100 ≤ v → v ≤ 20000 →
      WritesRow 15 v q { q with basinArea := v }
  | basinMaximum (q : PlantPage) (v : Nat) : v ≤ 9999 → WritesRow 16 v q { q with basinMaximum := v }
  | stallLimit (q : PlantPage) (v : Nat) : 5 ≤ v → v ≤ 240 →
      WritesRow 17 v q { q with stallLimit := v }
  | valveTravel (q : PlantPage) (v : Nat) : 5 ≤ v → v ≤ 300 →
      WritesRow 18 v q { q with valveTravel := v }
  | rampStart (q : PlantPage) (v : Nat) : 1 ≤ v → v ≤ 16 → WritesRow 19 v q { q with rampStart := v }
  | rampInterval (q : PlantPage) (v : Nat) : 1 ≤ v → v ≤ 10 →
      WritesRow 20 v q { q with rampInterval := v }
  | lowFlow (q : PlantPage) (v : Nat) : 50 ≤ v → v ≤ 95 → WritesRow 21 v q { q with lowFlow := v }
  | flowGrace (q : PlantPage) (v : Nat) : 5 ≤ v → v ≤ 60 → WritesRow 22 v q { q with flowGrace := v }
  | retryOnce (q : PlantPage) : WritesRow 23 0 q { q with shortfallPolicy := .retryOnce }
  | latch (q : PlantPage) : WritesRow 23 1 q { q with shortfallPolicy := .latch }
  | supplyWaitLimit (q : PlantPage) (v : Nat) : 60 ≤ v → v ≤ 1800 →
      WritesRow 24 v q { q with supplyWaitLimit := v }
  | haltLimit (q : PlantPage) (v : Nat) : 30 ≤ v → v ≤ 900 → WritesRow 25 v q { q with haltLimit := v }
  | tankLowLow (q : PlantPage) (v : Nat) : v ≤ 9999 → WritesRow 29 v q { q with tankLowLow := v }
  | refillOn (q : PlantPage) (v : Nat) : v ≤ 9999 → WritesRow 30 v q { q with refillOn := v }
  | refillOff (q : PlantPage) (v : Nat) : v ≤ 9999 → WritesRow 31 v q { q with refillOff := v }
  | lockMask (q : PlantPage) (m : BitVec 8) : WritesRow 32 m.toNat q { q with lockMask := m }
  | alert0Mask (q : PlantPage) (m : FlagSet) : WritesRow 33 m.toNat q { q with alert0Mask := m }
  | alert0Latched (q : PlantPage) : WritesRow 34 0 q { q with alert0Mode := .latched }
  | alert0Live (q : PlantPage) : WritesRow 34 1 q { q with alert0Mode := .live }
  | alert1Mask (q : PlantPage) (m : FlagSet) : WritesRow 35 m.toNat q { q with alert1Mask := m }
  | alert1Latched (q : PlantPage) : WritesRow 36 0 q { q with alert1Mode := .latched }
  | alert1Live (q : PlantPage) : WritesRow 36 1 q { q with alert1Mode := .live }

/-- One item is written to a plant page: its identifier is the row of Table 8-3, its index the filter, the
member of a threshold or channel row, or 0 (R136, R159). -/
inductive PlantPage.Writes : EditItem → PlantPage → PlantPage → Prop where
  | filter (q : PlantPage) (f : FilterNo) (n v : Nat) (c : FilterCfg) :
      FilterCfg.Writes n v (q.filters[f]) c →
      Writes ⟨n, f.val, v⟩ q { q with filters := q.filters.set f.val c }
  | normal (q : PlantPage) (v : Nat) : 64 ≤ v → v ≤ 255 →
      Writes ⟨7, 0, v⟩ q { q with thresholdNormal := v }
  | elevated (q : PlantPage) (v : Nat) : 64 ≤ v → v ≤ 255 →
      Writes ⟨7, 1, v⟩ q { q with thresholdElevated := v }
  | flood (q : PlantPage) (v : Nat) : 64 ≤ v → v ≤ 255 →
      Writes ⟨7, 2, v⟩ q { q with thresholdFlood := v }
  | tank (q : PlantPage) (n v : Nat) (g : ChannelCfg) : ChannelCfg.Writes n v q.tankCfg g →
      Writes ⟨n, 0, v⟩ q { q with tankCfg := g }
  | flow (q : PlantPage) (n v : Nat) (g : ChannelCfg) : ChannelCfg.Writes n v q.flowCfg g →
      Writes ⟨n, 1, v⟩ q { q with flowCfg := g }
  | basin (q : PlantPage) (n v : Nat) (g : ChannelCfg) : ChannelCfg.Writes n v q.basinCfg g →
      Writes ⟨n, 2, v⟩ q { q with basinCfg := g }
  | row (q r : PlantPage) (n v : Nat) : PlantPage.WritesRow n v q r → Writes ⟨n, 0, v⟩ q r

/-- One item is written to the staging page: the step count, a field of a step position 0 to 11, or a field
of the plant page (R136). -/
inductive Staged.Writes : EditItem → Staged → Staged → Prop where
  | stepCount (g : Fin 8) (count v : Nat) (steps : List StepRec) : 1 ≤ v → v ≤ 12 →
      Writes ⟨1, 0, v⟩ (.programme g count steps) (.programme g v steps)
  | step (g : Fin 8) (count position n v : Nat) (steps : List StepRec) (x y : StepRec) :
      position < 12 → steps[position]? = some x → StepRec.Writes n v x y →
      Writes ⟨n, position, v⟩ (.programme g count steps) (.programme g count (steps.set position y))
  | plant (it : EditItem) (q r : PlantPage) : PlantPage.Writes it q r →
      Writes it (.plant q) (.plant r)

/-- A list of items is written, each against the staging page as the earlier ones left it (R136). -/
inductive Staged.WritesAll : List EditItem → Staged → Staged → Prop where
  | done (x : Staged) : WritesAll [] x x
  | next (it : EditItem) (its : List EditItem) (x y z : Staged) : Staged.Writes it x y →
      WritesAll its y z → WritesAll (it :: its) x z

/-! ### Needs, standings and entries -/

/-- The fractions and the urgency of a filter that is not ABSENT are those of its measurements, run
minutes and limits (R18, R19). -/
def FilterRec.FractionsCurrent (r : FilterRec) : Prop :=
  r.headlossFraction = measureFraction r.headloss r.headlossLimit ∧
  r.turbidityFraction = measureFraction r.turbidity r.turbidityLimit ∧
  r.runFraction = fraction r.runMinutes r.runLimit ∧
  r.urgency = max (max r.headlossFraction r.turbidityFraction) r.runFraction

/-- Every standing is the one that R21 derives, the queue's view has it, and for a filter in STANDBY or
SERVICE the queue's view has the urgency too (R21, R22, R30). -/
def State.StandingsCurrent (s : State) : Prop :=
  ∀ f : FilterNo,
    ((s.filter f).state ≠ .absent → (s.filter f).FractionsCurrent) ∧
    (s.filter f).standing = (s.filter f).deriveStanding s.dueThreshold ∧
    (s.queue.views[f]).standing = (s.filter f).standing ∧
    ((s.filter f).state = .standby ∨ (s.filter f).state = .service →
      (s.queue.views[f]).urgency = (s.filter f).urgency)

/-- What the queue holds follows the views: a filter at LIMIT has a FORCED entry with reason LIMIT, a
filter that is DUE has an entry, a DUE entry stands only at DUE or HOLD, a reason stands exactly at a
FORCED entry, and every entry mirrors the view's urgency (R30, R31, R32). -/
def WashQueue.FollowsViews (q : WashQueue) : Prop :=
  (∀ f : FilterNo, (q.views[f]).standing = .limit →
    ∃ e ∈ q.entries, e.filter = f ∧ e.cls = .forced ∧ e.reason = some .limit) ∧
  (∀ f : FilterNo, (q.views[f]).standing = .due → ∃ e ∈ q.entries, e.filter = f) ∧
  ∀ e ∈ q.entries,
    (e.cls = .due → (q.views[e.filter]).standing = .due ∨ (q.views[e.filter]).standing = .hold) ∧
    (e.reason.isSome = true ↔ e.cls = .forced) ∧ e.urgency = (q.views[e.filter]).urgency

/-- The stall condition and its count, rotation stalled, and forced waiting are what the candidate, the
active count, the plant page and the queue make them (R61, R62). -/
def State.ConditionsCurrent (s : State) : Prop :=
  s.admission.stallHolds = s.stallCondition ∧
  (s.admission.stallHolds = false → s.admission.stallCount = 0) ∧
  s.admission.rotationStalled =
    (s.admission.stallHolds && decide (s.plant.stallLimit ≤ s.admission.stallCount)) ∧
  s.admission.forcedWaiting = s.queue.entries.any fun e =>
    e.cls == .forced && decide (s.plant.stallLimit < waitedMinutes s.clock e)

/-- No request waits that could be granted whole (R94). -/
def Arbiter.NothingGrantable (a : Arbiter) : Prop := ∀ r ∈ a.requests, a.grantable r.set = false

/-! ### Notices entering between two states -/

/-- Nothing but owed notices has entered outbound queues between two states, and free choices may have
been taken (R158). -/
inductive NoticesEntered (s : State) : State → Prop where
  /-- No notice has entered. -/
  | nothing : NoticesEntered s s
  /-- A free choice is taken between two notices. -/
  | chose (t : State) : NoticesEntered s t → NoticesEntered s t.chosen
  /-- One more notice enters. -/
  | entered (t : State) (n : Notice) : NoticesEntered s t → NoticesEntered s (t.enterNotice n)

/-! ### Requests and their answers -/

/-- The command that has a port take a request of a kind. -/
def ReqKind.command (p : Port) : ReqKind → Instr
  | .attach => .attach p
  | .detach => .detach p
  | .ping => .ping p
  | .report => .report p
  | .filterMode => .filterMode p
  | .washRequest => .washRequest p
  | .washWithdraw => .washWithdraw p
  | .washAbort => .washAbort p
  | .stepReady => .stepReady p
  | .stepDone => .stepDone p
  | .stepFault => .stepFault p
  | .readFilter => .readFilter p
  | .readQueue => .readQueue p
  | .readSlots => .readSlots p
  | .readMonitor => .readMonitor p
  | .readJournal => .readJournal p
  | .readPage => .readPage p
  | .readStatus => .readStatus p
  | .setClass => .setClass p
  | .setPause => .setPause p
  | .clockSet => .clockSet p
  | .clearStatus => .clearStatus p
  | .peakReset => .peakReset p
  | .editOpen => .editOpen p
  | .editWrite => .editWrite p
  | .editClose => .editClose p
  | .commit => .commit p

/-- Outside a reset, the frame stands at the head of the port's inbound queue, it is a request of the kind,
and the outbound queue has the places its answer can need (R154). -/
def State.Hears (s : State) (p : Port) (k : ReqKind) (fr : Frame) : Prop :=
  s.inReset = false ∧ (s.port p).inbound.head? = some fr ∧ fr.kind = k.code ∧
    k.places ≤ (s.port p).freePlaces

/-- The request is heard and passes every check of the Station Link (Table 10-3). -/
def State.Passes (s : State) (p : Port) (k : ReqKind) (fr : Frame) : Prop :=
  s.Hears p k fr ∧ s.linkCheck p k fr.payload = none

/-- The state once the frame at the head of a port's inbound queue is taken and answer frames of a kind
and a tag have joined its outbound queue (R154, R160). -/
def State.replied (p : Port) (kind tag : Byte) (payloads : List (List Byte)) (s : State) : State :=
  s.setPort p
    { s.port p with
      inbound := (s.port p).inbound.drop 1
      outbound := (s.port p).outbound ++ payloads.map fun pl => ⟨kind, tag, pl⟩ }

/-- The command answers a next state that differs from `u` in the request taken, its answer queued, and
owed notices entered after it. With `u` the state before, the request has no other effect. -/
def State.RepliesFrom (s u : State) (p : Port) (k : ReqKind) (fr : Frame)
    (payloads : List (List Byte)) : Prop :=
  ∃ t, exec (k.command p) s = .next t ∧
    NoticesEntered (u.replied p (k.code + 0x80) fr.tag payloads) t

/-- The request is refused with a code, and has no other effect (R154). -/
def State.Refuses (s : State) (p : Port) (k : ReqKind) (fr : Frame) (c : Code) : Prop :=
  s.RepliesFrom s p k fr [[BitVec.ofNat 8 (c.number + 128)]]

/-- Between two states the request at the head of the port's inbound queue has been taken, and its answer
stands first among the frames that joined the outbound queue (R154). -/
def State.Answered (s t : State) (p : Port) (k : ReqKind) (fr : Frame)
    (payloads : List (List Byte)) : Prop :=
  (t.port p).inbound = (s.port p).inbound.drop 1 ∧
    ((s.port p).outbound ++ payloads.map fun pl => ⟨k.code + 0x80, fr.tag, pl⟩) <+: (t.port p).outbound

/-- The request is accepted with the answer OK and leads to the state `t`. -/
def State.Accepts (s : State) (p : Port) (k : ReqKind) (fr : Frame) (t : State) : Prop :=
  exec (k.command p) s = .next t ∧ s.Answered t p k fr [[0x80]]

/-- The request reaches the slot that holds the filter it names (R71, R76, R83, R84). -/
def State.ReachesSlot (s : State) (p : Port) (k : ReqKind) (fr : Frame) (f : FilterNo) (i : SlotId) :
    Prop :=
  s.Passes p k fr ∧ filterOf (byteAt fr.payload 0) = some f ∧ (s.filter f).state = .wash ∧
    s.holdingSlot f = some i

/-! ### Before and after -/

/-- A filter record without its state, its standing and its owed WASH_END, which an admission and a notice
in the same event can change. -/
def FilterRec.need (r : FilterRec) : FilterRec :=
  { r with state := .absent, standing := .out, endOwed := false }

/-- A port has become UNATTACHED: it has no role, no bounds and no running silence timer, its latch is
free with the staging page empty, a COMMIT_DONE owed to it is dropped, the queue's covered set follows, and
no other port is touched in these (R156, R157). -/
def State.Unattached (s t : State) (p : Port) : Prop :=
  (t.port p).role = none ∧ (t.port p).bounds = none ∧ (t.port p).silenceTimer = none ∧
  (t.port p).silenceLimit = (s.port p).silenceLimit ∧
  (t.port p).errorCount = (s.port p).errorCount ∧ (t.port p).dropCount = (s.port p).dropCount ∧
  (∀ q : Port, q ≠ p → (t.port q).role = (s.port q).role ∧ (t.port q).bounds = (s.port q).bounds ∧
    (t.port q).silenceTimer = (s.port q).silenceTimer) ∧
  t.store.latch = (if s.store.latch = some p then none else s.store.latch) ∧
  t.store.staging = (if s.store.latch = some p then none else s.store.staging) ∧
  ((s.store.owedDone.any fun x => x.1 == p) = true → t.store.owedDone = none) ∧
  t.queue.covered = t.coverage

/-- Between two states a frame has joined a port's outbound queue. -/
def State.Sent (s t : State) (p : Port) (fr : Frame) : Prop :=
  fr ∈ (t.port p).outbound.drop (s.port p).outbound.length

/-- The frame of a notice of a slot that washes a filter (R68, R74, R158). -/
def Slot.noticeFrame (x : Slot) (i : SlotId) (f : FilterNo) : SlotNotice → Frame
  | .stepSet => ⟨0x60, 0, u8 f.val ++ u8 (slotCode i) ++ u8 x.stepIndex ++ u8 x.step.kind.code ++
      u8 x.repeatIndex⟩
  | .stepRun => ⟨0x61, 0, u8 f.val ++ u8 x.stepIndex ++ u8 x.repeatIndex⟩

/-- The slot has come to owe a notice: it is owed still, with no free place at a port that covers the filter,
or it has joined the covering port's outbound queue (R68, R69, R74). -/
def State.SlotNoticed (s t : State) (i : SlotId) (n : SlotNotice) : Prop :=
  ((t.slot i).noticeOwed = some n ∧ ∀ (f : FilterNo) (p : Port), (t.slot i).filter = some f →
    t.coveringPort f = some p → 8 ≤ (t.port p).outbound.length) ∨
  ((t.slot i).noticeOwed = none ∧ ∃ (f : FilterNo) (p : Port), (t.slot i).filter = some f ∧
    t.coveringPort f = some p ∧ s.Sent t p ((t.slot i).noticeFrame i f n))

/-- The filter record has come to owe a WASH_END: end owed is set, with no free place at a port that covers
the filter, or the notice has joined the covering port's outbound queue (R9, R26, R86, R88). -/
def State.EndNoticed (s t : State) (f : FilterNo) (outcome : WashOutcome) (cause : Cause)
    (sequence : Count16) : Prop :=
  ((t.filter f).endOwed = true ∧
    ∀ p : Port, t.coveringPort f = some p → 8 ≤ (t.port p).outbound.length) ∨
  ((t.filter f).endOwed = false ∧ ∃ p : Port, t.coveringPort f = some p ∧
    s.Sent t p
      ⟨0x62, 0, u8 f.val ++ u8 outcome.code ++ u8 cause.code ++ u16 sequence.toNat⟩)

/-- Where a command takes a request that reaches the slot, it is accepted: the request leaves the inbound
queue and the answer OK joins the outbound one (R76, R83, R84, R154). -/
def State.AnswersSlot (s t : State) (i : SlotId) (c : Instr) : Prop :=
  ∀ (p : Port) (k : ReqKind) (fr : Frame) (f : FilterNo), c = k.command p →
    s.ReachesSlot p k fr f i → s.Accepts p k fr t

/-- Between two states a volume in decilitres has been credited once: to the delivered count of a slot, which
saturates, or to unattributed (R87, R128). -/
def State.Credited (s t : State) (v : Nat) (holder : Option SlotId) : Prop :=
  t.monitor.unattributed =
      s.monitor.unattributed + (if holder = none then BitVec.ofNat 32 v else 0) ∧
    ∀ i : SlotId, (t.slot i).delivered =
      if holder = some i then min 4294967295 ((s.slot i).delivered + v) else (s.slot i).delivered

/-- The slot has asked for a set: it was granted whole at once and the slot is in RUN with its STEP_RUN owed
or sent, or its request waits in the list (R72, R73, R74, R94). -/
def State.AskedFor (s t : State) (i : SlotId) (set : SupplySet) : Prop :=
  ((t.slot i).state = .run ∧ (t.slot i).supplyWait = none ∧
    (t.slot i).stepTimer = some (t.slot i).step.duration ∧ (t.slot i).stepElapsed = 0 ∧
    t.arbiter.holdsAir i = set.hasAir ∧ t.arbiter.holdsWater i = set.hasWater ∧
    s.SlotNoticed t i .stepRun) ∨
  ((t.slot i).state = .waitSupply ∧ (t.slot i).supplyWait = some t.plant.supplyWaitLimit ∧
    ⟨i, (t.slot i).ticket, set⟩ ∈ t.arbiter.requests)

/-- The wash of a filter in a slot has ended: the record `x` of the slot is the journal's newest, the
filter's history is updated, its WASH_END is owed or sent, and the slot no longer holds the filter or any
supply (R9, R26, R86, R88, R118). -/
def State.WashEnded (s t : State) (i : SlotId) (f : FilterNo) (x : Slot) (outcome : WashOutcome)
    (cause : Cause) : Prop :=
  t.journal = s.journal.write (x.washRecord f s.journal.nextSequence s.clock outcome cause) ∧
  (t.filter f).washCount = (s.filter f).washCount + 1 ∧
  (t.filter f).abortCount =
    (if outcome = .aborted then min 255 ((s.filter f).abortCount + 1) else (s.filter f).abortCount) ∧
  (t.filter f).lastOutcome = some outcome ∧ (t.filter f).lastCause = cause ∧
  (t.filter f).lastSequence = some s.journal.nextSequence ∧
  s.EndNoticed t f outcome cause s.journal.nextSequence ∧
  (t.slot i).filter ≠ some f ∧
  t.arbiter.holdsAir i = false ∧ t.arbiter.holdsWater i = false ∧
  (∀ r ∈ t.arbiter.requests, r.slot ≠ i)

/-- A filter after an aborted wash: in STANDBY with wash failed set and standing BELOW where the plant page
has it present, else ABSENT; what it needs is kept (R8). -/
def State.FilterAborted (s t : State) (f : FilterNo) : Prop :=
  (if (s.plant.filters[f]).present then
    (t.filter f).state = .standby ∧ (t.filter f).washFailed = true ∧ (t.filter f).standing = .below
   else (t.filter f).state = .absent ∧ (t.filter f).standing = .out) ∧
  (t.filter f).runMinutes = (s.filter f).runMinutes ∧ (t.filter f).headloss = (s.filter f).headloss ∧
  (t.filter f).turbidity = (s.filter f).turbidity ∧ (t.filter f).urgency = (s.filter f).urgency ∧
  (t.filter f).deferralMark = (s.filter f).deferralMark ∧
  (t.filter f).historyUnknown = (s.filter f).historyUnknown

/-- A command ends the repeat that a slot runs: the step timer of any step but DRAIN, the clear hold, or an
accepted STEP_DONE of a DRAIN step (R75, R76, R82). -/
def State.EndsRepeat (s : State) (i : SlotId) (c : Instr) : Prop :=
  (c = .stepTimerExpiry i ∧ s.inReset = false ∧ (s.slot i).stepTimer.isSome = true ∧
    (s.slot i).step.kind ≠ .drain) ∨
  (c = .clearHoldExpiry i ∧ s.inReset = false ∧ ∃ n, (s.slot i).clearHold = .running n) ∨
  ∃ p fr f, c = .stepDone p ∧ s.ReachesSlot p .stepDone fr f i ∧
    byteAt fr.payload 1 = (s.slot i).stepIndex ∧ (s.slot i).state = .run ∧
    (s.slot i).step.kind = .drain

/-- The end of a WASTE step by its step timer sets RIPEN_LONG (R75). -/
def State.ripensLong (s : State) (i : SlotId) (c : Instr) : Bool :=
  (s.slot i).ripenLong || (decide (c = .stepTimerExpiry i) && (s.slot i).step.kind == .waste)

/-! ### What the passing of a second brings about -/

/-- The command that names the event of a due thing. -/
def Due.command : Due → Instr
  | .minute => .minuteEvent
  | .silence p => .silenceTimerExpiry p
  | .spacing => .spacingTimerExpiry
  | .slot .valve i => .valveTimerExpiry i
  | .slot .supplyWait i => .supplyWaitExpiry i
  | .slot .step i => .stepTimerExpiry i
  | .slot .clearHold i => .clearHoldExpiry i
  | .slot .ramp i => .rampTimerExpiry i
  | .slot .shortfall i => .shortfallTimerExpiry i
  | .slot .resettle i => .resettleTimerExpiry i
  | .slot .halt i => .haltTimerExpiry i
  | .commit => .commitCompletion

/-- A timer runs and ends within a second. -/
def Timer.Ends (t : Timer) : Prop := ∃ n, t = some n ∧ n ≤ 1

/-- A thing becomes due at the end of the second that begins: its timer ends, the seconds count comes to 60,
or a commit is in progress (R140, R161; log 2). -/
def State.EndsNow (s : State) : Due → Prop
  | .minute => 59 ≤ s.seconds
  | .silence p => Timer.Ends (s.port p).silenceTimer
  | .spacing => Timer.Ends s.admission.spacing
  | .slot .valve i => Timer.Ends (s.slot i).valveTimer
  | .slot .supplyWait i => Timer.Ends (s.slot i).supplyWait
  | .slot .step i => Timer.Ends (s.slot i).stepTimer
  | .slot .clearHold i => ∃ n, (s.slot i).clearHold = .running n ∧ n ≤ 1
  | .slot .ramp i => Timer.Ends (s.slot i).rampTimer
  | .slot .shortfall i => Timer.Ends (s.slot i).shortfall
  | .slot .resettle i => Timer.Ends (s.slot i).resettle
  | .slot .halt i => Timer.Ends (s.slot i).haltTimer
  | .commit => s.store.commit.isSome = true

/-- Due things are taken between two states, each with the effect of its command on the state as the earlier
ones left it; where several are due, a free choice is taken first (log 4). -/
inductive DueTaken : List Due → State → State → Prop where
  | done (u : State) : DueTaken [] u u
  | only (d : Due) (ds : List Due) (u v w : State) : u.dueNow = [d] → exec d.command u = .next v →
      DueTaken ds v w → DueTaken (d :: ds) u w
  | oneOf (d : Due) (ds : List Due) (u v w : State) : 2 ≤ u.dueNow.length → d ∈ u.dueNow →
      exec d.command u.chosen = .next v → DueTaken ds v w → DueTaken (d :: ds) u w

/-- The agreements of a running wash that the statements about one take as given: each is kept by every
step, and `Obligations.SupplyStaysInAgreement` says so. -/
def State.SupplyAgrees (s : State) : Prop :=
  s.GrantsAgree ∧ s.WashesAgree ∧ s.QueuedFilters ∧ s.arbiter.NothingGrantable

end Sys2Proof.Machine

namespace Sys2Proof

/-! ### Kinds of command -/

/-- The two resets and the start-up. -/
def Instr.isReset : Instr → Bool
  | .powerOnReset | .resetLine | .startUp _ _ => true
  | _ => false

/-- The commands within which a wash can end. -/
def Instr.canEndWash : Instr → Bool
  | .washAbort _ | .stepDone _ | .stepFault _ | .stepTimerExpiry _ | .clearHoldExpiry _
  | .valveTimerExpiry _ | .supplyWaitExpiry _ | .shortfallTimerExpiry _ | .haltTimerExpiry _
  | .channelSample _ _ | .windowCompletion _ _ | .commitCompletion => true
  | _ => false

/-- The commands that act on the port's own record: its line, its requests and its silence. -/
def Instr.portOf : Instr → Option Port
  | .frameArrival p _ | .discardedFrame p _ _ | .frameDeparture p | .silenceTimerExpiry p
  | .unknownRequest p | .attach p | .detach p | .ping p | .report p | .filterMode p | .washRequest p
  | .washWithdraw p | .washAbort p | .stepReady p | .stepDone p | .stepFault p | .readFilter p
  | .readQueue p | .readSlots p | .readMonitor p | .readJournal p | .readPage p | .readStatus p
  | .setClass p | .setPause p | .clockSet p | .clearStatus p | .peakReset p | .editOpen p
  | .editWrite p | .editClose p | .commit p => some p
  | _ => none

/-- The commands that can change the edit latch or the staging page. -/
def Instr.canEdit : Instr → Bool
  | .attach _ | .detach _ | .silenceTimerExpiry _ | .editOpen _ | .editWrite _ | .editClose _
  | .commit _ => true
  | _ => false

/-- The commands that carry a converter reading. -/
def Instr.isSample : Instr → Bool
  | .channelSample _ _ | .windowCompletion _ _ => true
  | _ => false

end Sys2Proof
end

