-- ==== Sys2Proof/Certificates/Slice0/Obligations.lean ====
section
/-! DEFINITION. The statements for the provers. A statement about a request says that it holds of the frame
`fr` at the head of the port's inbound queue; `State.Passes` and `State.Hears` say that the port can take it
now. `State.RepliesFrom` says that a request has no effect but the one named, its answer, and the entry of
owed notices. -/

open Sys2Proof Sys2Proof.Machine

/-! ### Steps, reset and start-up -/

/-- A step runs the command at the front of the queue, on the state with the queue's rest. -/
def Obligations.StepRunsFrontCommand : Prop :=
  ∀ (c : Instr) (s : State), step { s with pending := c :: s.pending } = exec c s

/-- With no command waiting a second of plant time passes (the model's choice, log 2): every running timer
counts down, a frozen clear hold alone stays, and step elapsed rises with the step timer (R74, R81, R82). A
timer with at most a second left is then due, as are the minute after 60 s and a commit in progress. What is due
is taken with the effect of its own command on the counted-down state, one thing at a time, until nothing is due
or 23 things, as many as there can be, have been taken; where nothing but the minute is due, the plant clock
advances and the seconds count starts again (R161). -/
def Obligations.SecondPasses : Prop :=
  ∀ s : State, s.pending = [] → s.inReset = false →
    (s.countDown.dueNow = [] →
      ∃ t, step s = .next t ∧ t.seconds = s.seconds + 1 ∧ t.clock = s.clock ∧
        (∀ p : Port, (t.port p).silenceTimer = (s.port p).silenceTimer.map fun n => n - 1) ∧
        t.admission.spacing = s.admission.spacing.map (fun n => n - 1) ∧
        (∀ i : SlotId,
          (t.slot i).stepTimer = (s.slot i).stepTimer.map (fun n => n - 1) ∧
          (t.slot i).stepElapsed =
            (s.slot i).stepElapsed + (if (s.slot i).stepTimer.isSome then 1 else 0) ∧
          (t.slot i).valveTimer = (s.slot i).valveTimer.map (fun n => n - 1) ∧
          (t.slot i).supplyWait = (s.slot i).supplyWait.map (fun n => n - 1) ∧
          (t.slot i).rampTimer = (s.slot i).rampTimer.map (fun n => n - 1) ∧
          (t.slot i).shortfall = (s.slot i).shortfall.map (fun n => n - 1) ∧
          (t.slot i).resettle = (s.slot i).resettle.map (fun n => n - 1) ∧
          (t.slot i).haltTimer = (s.slot i).haltTimer.map (fun n => n - 1) ∧
          (∀ n, (s.slot i).clearHold = .running n → (t.slot i).clearHold = .running (n - 1)) ∧
          (∀ n, (s.slot i).clearHold = .frozen n → (t.slot i).clearHold = .frozen n))) ∧
    (s.countDown.dueNow = [.minute] →
      ∃ t, step s = .next t ∧ t.clock = s.clock + 1 ∧ t.seconds = 0) ∧
    (∀ d : Due, d ∈ s.countDown.dueNow ↔ s.EndsNow d) ∧
    (∀ d : Due, s.countDown.dueNow = [d] →
      ∃ t, exec d.command s.countDown = .next t ∧ (t.dueNow = [] → step s = .next t)) ∧
    ∃ (taken : List Due) (t : State), step s = .next t ∧ DueTaken taken s.countDown t ∧
      (t.dueNow = [] ∨ taken.length = 23)

/-- Both resets have one effect: every output inactive and every block at its reset values, the journal and
the washes lost, the stored pages kept where no commit is in progress (R2, R30, R43, R132, R145, R163). That the
blocks and the flags stand so from the assertion on, before the start-up, is the model's choice (log 8). -/
def Obligations.ResetsClearTheBlocks : Prop :=
  ∀ s : State, ∃ t,
    exec .powerOnReset s = .next t ∧ exec .resetLine s = .next t ∧
    t.inReset = true ∧ t.arbiter.waterDemand = 0 ∧ t.arbiter.blowerRun = false ∧
    t.monitor.refill = false ∧ t.status.alert0 = false ∧ t.status.alert1 = false ∧
    t.status.latched = 0 ∧ t.status.live = 0 ∧
    (∀ p : Port, t.port p = PortRec.atReset) ∧ (∀ i : SlotId, t.slot i = Slot.atReset) ∧
    t.admission = AdmissionUnit.atReset ∧ t.arbiter = Arbiter.atReset ∧
    t.monitor = Monitor.atReset ∧ t.journal = Journal.atReset ∧
    (t.queue.entries = [] ∧ t.queue.joinCounter = 0 ∧ t.queue.candidate = none ∧
      t.queue.serviceCount = 0 ∧
      ∀ f : FilterNo, t.queue.covered[f] = false ∧
        t.queue.views[f] = ⟨if (t.plant.filters[f]).present then .below else .out, 0⟩) ∧
    (t.filters.rawClass = .normal ∧ t.filters.serviceCount = 0 ∧
      ∀ f : FilterNo,
        let r := t.filter f
        r.state = (if (t.plant.filters[f]).present then .standby else .absent) ∧
        r.standing = (if (t.plant.filters[f]).present then .below else .out) ∧
        r.headloss = none ∧ r.turbidity = none ∧ r.headlossClamped = false ∧
        r.turbidityClamped = false ∧ r.reportAge = 0 ∧ r.stale = false ∧ r.runMinutes = 0 ∧
        r.headlossFraction = 0 ∧ r.turbidityFraction = 0 ∧ r.runFraction = 0 ∧ r.urgency = 0 ∧
        r.deferralMark = none ∧ r.washFailed = false ∧ r.historyUnknown = true ∧
        r.washCount = 0 ∧ r.abortCount = 0 ∧ r.lastOutcome = none ∧ r.lastCause = .noCause ∧
        r.lastSequence = none ∧ r.endOwed = false) ∧
    t.clock = 0 ∧ t.seconds = 0 ∧ t.store.latch = none ∧ t.store.staging = none ∧
    t.store.commit = none ∧ t.store.owedDone = none ∧
    (s.store.commit = none → t.store.programmes = s.store.programmes ∧ t.store.plant = s.store.plant)

/-- A reset during a commit leaves its marker set, so that the start-up finds the page INVALID, latches
PAGE_INVALID, and runs from the factory defaults where it is the plant page; the other pages are as they
were (R133, R143). That PAGE_INVALID has a live copy is Table 9-1's word against R147's count (log 27). -/
def Obligations.InterruptedCommitIsInvalid : Prop :=
  ∀ (s : State) (target : CommitTarget) (p : Port) (b1 b0 : Bool),
    s.store.commit = some (target, p) →
    ∃ t u, exec .resetLine s = .next t ∧ exec (.startUp b1 b0) t = .next u ∧
      u.store.pageInvalid = true ∧ u.status.latched.getLsbD Flag.pageInvalid.bit = true ∧
      u.status.live.getLsbD Flag.pageInvalid.bit = true ∧
      (∀ g : Fin 8, target.page = .programme g →
        (u.store.programmes[g]).marker = true ∧ (u.store.programmes[g]).valid = false ∧
        u.queue.pageStatus[g] = .invalid) ∧
      (∀ g : Fin 8, target.page ≠ .programme g →
        (u.store.programmes[g]).steps = (s.store.programmes[g]).steps ∧
        (u.store.programmes[g]).check = (s.store.programmes[g]).check ∧
        (u.store.programmes[g]).marker = (s.store.programmes[g]).marker) ∧
      (target.page = .plant → u.store.plant.marker = true ∧ u.store.plant.valid = false ∧
        u.plant = PlantPage.factory) ∧
      (target.page ≠ .plant → u.store.plant.content = s.store.plant.content ∧
        u.store.plant.check = s.store.plant.check ∧ u.store.plant.marker = s.store.plant.marker)

/-- The start-up reads the straps, revalidates all nine pages, loads the blocks from the plant page in force,
hands on PAGE_INVALID and evaluates the alert lines (R2, R39, R133, R149, R163). That PAGE_INVALID has a live
copy is Table 9-1's word against R147's count (log 27). -/
def Obligations.StartUpLoadsThePart : Prop :=
  ∀ (s : State) (b1 b0 : Bool), s.inReset = true →
    ∃ t, exec (.startUp b1 b0) s = .next t ∧ t.inReset = false ∧
      t.lineRate = (if b1 then (if b0 then .baud115200 else .baud57600)
        else if b0 then .baud38400 else .baud19200) ∧
      (∀ g : Fin 8,
        (t.store.programmes[g]).steps = (s.store.programmes[g]).steps ∧
        ((t.store.programmes[g]).valid = true ↔ (s.store.programmes[g]).marker = false ∧
          programmeCheck (s.store.programmes[g]).steps = (s.store.programmes[g]).check) ∧
        t.queue.pageStatus[g] = (if (t.store.programmes[g]).valid then .usable else .invalid)) ∧
      t.store.plant.content = s.store.plant.content ∧
      (t.store.plant.valid = true ↔ s.store.plant.marker = false ∧
        plantCheck s.store.plant.content = s.store.plant.check) ∧
      t.plant = (if t.store.plant.valid then s.store.plant.content else PlantPage.factory) ∧
      (∀ f : FilterNo,
        (t.filter f).state = (if (t.plant.filters[f]).present then .standby else .absent) ∧
        (t.filter f).standing = (if (t.plant.filters[f]).present then .below else .out) ∧
        (t.filter f).area = (t.plant.filters[f]).area ∧
        (t.filter f).programme = (t.plant.filters[f]).programme ∧
        (t.filter f).headlossLimit = (t.plant.filters[f]).headlossLimit ∧
        (t.filter f).turbidityLimit = (t.plant.filters[f]).turbidityLimit ∧
        (t.filter f).runLimit = (t.plant.filters[f]).runLimit ∧
        (t.filter f).historyUnknown = true) ∧
      t.queue.floor = t.plant.floor ∧
      (t.store.pageInvalid = true ↔
        t.store.plant.valid = false ∨ ∃ g : Fin 8, (t.store.programmes[g]).valid = false) ∧
      t.status.latched = (if t.store.pageInvalid then Flag.pageInvalid.only else 0) ∧
      t.status.live = t.status.latched ∧
      t.status.alert0 = alertLine t.plant.alert0Mask t.plant.alert0Mode t.status ∧
      t.status.alert1 = alertLine t.plant.alert1Mask t.plant.alert1Mode t.status ∧
      t.clock = 0 ∧ t.seconds = 0

/-! ### The station line -/

/-- A hunting receiver reads back every frame from its bytes, in order, whatever bytes without a start byte
stand between them (R152, R153). -/
def Obligations.FramesReadBackFromBytes : Prop :=
  ∀ (line : List (List Byte × Frame)) (r : PortRec),
    (∀ x ∈ line, 0xA5#8 ∉ x.1 ∧ x.2.payload.length ≤ 60) → r.receiver = .hunting →
    r.receiveAll (line.flatMap fun x => x.1 ++ x.2.bytes) =
      line.foldl (fun q x => q.arrive x.2) r

/-- A good frame restarts the silence timer of an attached port and joins the inbound queue, or is dropped and
counted where four frames wait. A frame with a length above 60, a gap inside it, or a check value that differs
is discarded: the error count rises by 1, the receiver hunts, and the byte after the gap is taken as a hunting
byte. Nothing else changes (R153). -/
def Obligations.FramesArriveOrAreDiscarded : Prop :=
  (∀ (s : State) (p : Port) (fr : Frame),
     s.inReset = false → (s.port p).receiver = .hunting → fr.payload.length ≤ 60 →
     exec (.frameArrival p fr.bytes) s = .next (s.setPort p
       { s.port p with
         silenceTimer :=
           if (s.port p).role.isSome then some (s.port p).silenceLimit else (s.port p).silenceTimer
         inbound :=
           if (s.port p).inbound.length < 4 then (s.port p).inbound ++ [fr] else (s.port p).inbound
         dropCount :=
           if (s.port p).inbound.length < 4 then (s.port p).dropCount
           else (s.port p).dropCount + 1 })) ∧
  (∀ (s : State) (p : Port), s.inReset = false → (s.port p).receiver = .hunting →
     (∀ kind tag len : Byte, 60 < len.toNat →
       exec (.discardedFrame p [0xA5, kind, tag, len] none) s =
         .next (s.setPort p { s.port p with errorCount := (s.port p).errorCount + 1 })) ∧
     (∀ (fr : Frame) (n : Nat) (b : Byte), fr.payload.length ≤ 60 → 0 < n → n < fr.bytes.length →
       exec (.discardedFrame p (fr.bytes.take n) (some b)) s =
         .next (s.setPort p
           { s.port p with
             errorCount := (s.port p).errorCount + 1
             receiver := if b = 0xA5 then .gathering [] else .hunting })) ∧
     (∀ (fr : Frame) (c : BitVec 16), fr.payload.length ≤ 60 → c ≠ crc16 fr.checked →
       exec (.discardedFrame p (0xA5#8 :: (fr.checked ++ bytes16 c)) none) s =
         .next (s.setPort p { s.port p with errorCount := (s.port p).errorCount + 1 })))

/-- An owed notice enters the outbound queue of the port that exists for it, where a place is free, and is owed
no longer; a STEP_SET starts the valve timer (R26, R69, R88, R141). The frame at the head of an outbound queue
leaves, and nothing else happens but that owed notices enter; an empty queue sends nothing (R158). R158 lets
owed notices and the request at the head of the inbound queue want one place and leaves open which takes it. That
this request claims as many free places as its answer can need, if so many are free, that a notice with a port and
a free place then stays owed only where these claimed places are all the free ones, and that they may stay free
for a request that is not taken at once, is the model's choice (log 18, unsafe there). -/
def Obligations.NoticesEnterAsPlacesFree : Prop :=
  (∀ (s : State) (p : Port), s.inReset = false → (s.port p).outbound.length < 8 →
     (∀ (i : SlotId) (f : FilterNo), (s.slot i).filter = some f → s.coveringPort f = some p →
       ((s.slot i).noticeOwed = some .stepSet → (s.slot i).state = .setup →
         exec (.stepSet i) s = .next (State.setSlot i
           { s.slot i with noticeOwed := none, valveTimer := some s.plant.valveTravel }
           (s.setPort p { s.port p with
             outbound := (s.port p).outbound ++
               [⟨0x60, 0, u8 f.val ++ u8 (slotCode i) ++ u8 (s.slot i).stepIndex ++
                 u8 (s.slot i).step.kind.code ++ u8 (s.slot i).repeatIndex⟩] }))) ∧
       ((s.slot i).noticeOwed = some .stepRun →
         exec (.stepRun i) s = .next (State.setSlot i { s.slot i with noticeOwed := none }
           (s.setPort p { s.port p with
             outbound := (s.port p).outbound ++
               [⟨0x61, 0, u8 f.val ++ u8 (s.slot i).stepIndex ++ u8 (s.slot i).repeatIndex⟩] })))) ∧
     (∀ (f : FilterNo) (o : WashOutcome) (q : Count16), s.coveringPort f = some p →
       (s.filter f).endOwed = true → (s.filter f).lastOutcome = some o →
       (s.filter f).lastSequence = some q →
       exec (.washEnd f) s = .next (State.setFilter f { s.filter f with endOwed := false }
         (s.setPort p { s.port p with
           outbound := (s.port p).outbound ++
             [⟨0x62, 0, u8 f.val ++ u8 o.code ++ u8 (s.filter f).lastCause.code ++ u16 q.toNat⟩] }))) ∧
     (∀ g : PageId, s.store.owedDone = some (p, g) → (s.port p).role.isSome = true →
       exec .commitDone s = .next
         { s.setPort p { s.port p with
             outbound := (s.port p).outbound ++ [⟨0x63, 0, u8 g.number ++ u8 0⟩] } with
           store := { s.store with owedDone := none } })) ∧
  (∀ (s : State) (p : Port), s.inReset = false →
     (∀ fr rest, (s.port p).outbound = fr :: rest →
       ∃ t, exec (.frameDeparture p) s = .next t ∧
         NoticesEntered (s.setPort p { s.port p with outbound := rest }) t ∧
         ∀ q, t.readyAt q ≠ [] → (t.port q).freePlaces = (t.port q).headClaim) ∧
     ((s.port p).outbound = [] → exec (.frameDeparture p) s = .next s))

/-! ### Requests at the Station Link -/

/-- A command whose event cannot happen changes nothing (the model's choice, log 1): a request that is not at
the head of its port's inbound queue, or whose answer has too few free places (R154); a notice that is not
owed, has no port, or finds no free place (R158); and, while a reset is in force, everything but a reset and
the start-up (R163; log 8). -/
def Obligations.NothingToTakeChangesNothing : Prop :=
  (∀ (s : State) (p : Port),
     (∀ k : ReqKind,
       (s.port p).inbound = [] ∨
         (∃ fr, (s.port p).inbound.head? = some fr ∧
           (fr.kind ≠ k.code ∨ 8 < (s.port p).outbound.length + k.places)) →
       exec (k.command p) s = .next s) ∧
     ((s.port p).inbound = [] ∨
       (∃ fr, (s.port p).inbound.head? = some fr ∧
         ((∃ k : ReqKind, fr.kind = k.code) ∨ 8 ≤ (s.port p).outbound.length)) →
       exec (.unknownRequest p) s = .next s)) ∧
  (∀ s : State, s.inReset = true →
     (∀ c : Instr, c.isReset = false → exec c s = .next s) ∧ (s.pending = [] → step s = .next s)) ∧
  (∀ s : State,
     (∀ (i : SlotId),
       ((s.slot i).noticeOwed ≠ some .stepSet → exec (.stepSet i) s = .next s) ∧
       ((s.slot i).noticeOwed ≠ some .stepRun → exec (.stepRun i) s = .next s) ∧
       (∀ f, (s.slot i).filter = some f → s.linkCovers f = false →
         exec (.stepSet i) s = .next s ∧ exec (.stepRun i) s = .next s) ∧
       (∀ f p, (s.slot i).filter = some f → s.coveringPort f = some p →
         8 ≤ (s.port p).outbound.length →
         exec (.stepSet i) s = .next s ∧ exec (.stepRun i) s = .next s)) ∧
     (∀ f : FilterNo,
       ((s.filter f).endOwed = false → exec (.washEnd f) s = .next s) ∧
       (s.linkCovers f = false → exec (.washEnd f) s = .next s) ∧
       (∀ p, s.coveringPort f = some p → 8 ≤ (s.port p).outbound.length →
         exec (.washEnd f) s = .next s)) ∧
     ((s.store.owedDone = none → exec .commitDone s = .next s) ∧
       ∀ p g, s.store.owedDone = some (p, g) → 8 ≤ (s.port p).outbound.length →
         exec .commitDone s = .next s))

/-- The five checks of the Station Link, in their order, each refuse every kind of request they apply to, and a
frame of a kind in no row of the catalogue is answered FORMAT under kind 0xFF with its own tag; neither has an
effect but the answer (R154, Table 10-3). -/
def Obligations.LinkChecksRefuseInOrder : Prop :=
  (∀ (s : State) (p : Port) (k : ReqKind) (fr : Frame), s.Hears p k fr →
     (k.lengthOk fr.payload.length = false → s.Refuses p k fr .format) ∧
     (k.lengthOk fr.payload.length = true →
       ((s.port p).role = none → k ≠ .attach → s.Refuses p k fr .notAttached) ∧
       (∀ r : Role, (s.port p).role = some r → k.allows r = false → s.Refuses p k fr .role) ∧
       ((s.port p).role = some .gallery → k.allows .gallery = true → k.boundsChecked = true →
         (∀ f b, filterOf (byteAt fr.payload 0) = some f → (s.port p).bounds = some b →
           f < b.first ∨ b.last < f) →
         s.Refuses p k fr .bounds) ∧
       ((s.port p).role = none → k = .attach → reservedBits k fr.payload = true →
         s.Refuses p k fr .range) ∧
       (∀ r : Role, (s.port p).role = some r → k.allows r = true →
         (r = .gallery → k.boundsChecked = true →
           ∃ f b, filterOf (byteAt fr.payload 0) = some f ∧ (s.port p).bounds = some b ∧
             b.first ≤ f ∧ f ≤ b.last) →
         reservedBits k fr.payload = true → s.Refuses p k fr .range))) ∧
  (∀ (s : State) (p : Port) (fr : Frame),
     s.inReset = false → (s.port p).inbound.head? = some fr → (∀ k : ReqKind, fr.kind ≠ k.code) →
     (s.port p).outbound.length < 8 →
     ∃ t, exec (.unknownRequest p) s = .next t ∧
       NoticesEntered (s.replied p 0xFF fr.tag [[0x8E]]) t)

/-- An accepted ATTACH gives the port its role, bounds and silence limit, starts its silence timer, and hands
on the covered set; a gallery role gives up a latch it held. It holds of a port that was attached already. An
ATTACH with a role above 1, a silence limit outside 1 to 60, or gallery bounds that are not filter numbers in
order is refused with RANGE, and one whose bounds share a filter with another gallery port's with OVERLAP
(R137, R155). -/
def Obligations.AttachIsAnswered : Prop :=
  (∀ (s : State) (p : Port) (fr : Frame), s.Passes p .attach fr →
     1 ≤ byteAt fr.payload 3 → byteAt fr.payload 3 ≤ 60 →
     ∀ (role : Role) (bounds : Option Bounds),
       (role = .supervisor ∧ byteAt fr.payload 0 = 1 ∧ bounds = none ∨
         role = .gallery ∧ byteAt fr.payload 0 = 0 ∧ ∃ b : Bounds, bounds = some b ∧
           b.first.val = byteAt fr.payload 1 ∧ b.last.val = byteAt fr.payload 2 ∧
           b.first ≤ b.last ∧
           ∀ q c, q ≠ p → (s.port q).role = some .gallery → (s.port q).bounds = some c →
             ¬ (b.first ≤ c.last ∧ c.first ≤ b.last)) →
       ∃ t, s.Accepts p .attach fr t ∧ (t.port p).role = some role ∧ (t.port p).bounds = bounds ∧
         (t.port p).silenceLimit = byteAt fr.payload 3 ∧
         (t.port p).silenceTimer = some (byteAt fr.payload 3) ∧
         (∀ q, q ≠ p → (t.port q).role = (s.port q).role ∧ (t.port q).bounds = (s.port q).bounds ∧
           (t.port q).silenceTimer = (s.port q).silenceTimer) ∧
         t.store.latch =
           (if role = .gallery ∧ s.store.latch = some p then none else s.store.latch) ∧
         t.queue.covered = t.coverage) ∧
  (∀ (s : State) (p : Port) (fr : Frame), s.Passes p .attach fr →
     let role := byteAt fr.payload 0
     let first := byteAt fr.payload 1
     let last := byteAt fr.payload 2
     let limit := byteAt fr.payload 3
     (1 < role ∨ limit = 0 ∨ 60 < limit → s.Refuses p .attach fr .range) ∧
     (role = 0 → 1 ≤ limit → limit ≤ 60 → 15 < first ∨ 15 < last ∨ last < first →
       s.Refuses p .attach fr .range) ∧
     (role = 0 → 1 ≤ limit → limit ≤ 60 → ∀ b : Bounds, b.first.val = first → b.last.val = last →
       first ≤ last →
       (∃ q c, q ≠ p ∧ (s.port q).role = some .gallery ∧ (s.port q).bounds = some c ∧
         ∃ f : FilterNo, b.has f = true ∧ c.has f = true) →
       s.Refuses p .attach fr .overlap))

/-- A DETACH and the expiry of the silence timer leave the port UNATTACHED; the lapse latches PORT_LAPSED
(R137, R141, R156, R157). That an UNATTACHED port keeps its silence limit is the model's choice (log 22). -/
def Obligations.PortsDetachAndLapse : Prop :=
  ∀ (s : State) (p : Port),
    (∀ fr, s.Passes p .detach fr → ∃ t, s.Accepts p .detach fr t ∧ s.Unattached t p) ∧
    (s.inReset = false → (s.port p).silenceTimer.isSome = true →
      ∃ t, exec (.silenceTimerExpiry p) s = .next t ∧ s.Unattached t p ∧
        (t.port p).inbound = (s.port p).inbound ∧
        t.status.latched.getLsbD Flag.portLapsed.bit = true)

/-- At a loss of gallery presence, by a lapse, a DETACH or an ATTACH, the slot that holds the filter goes to
HALT with its halt timer started, gives up its supply and stops its other timers; its place in the programme,
step elapsed and the notice owed are kept. A slot in WAIT_SUPPLY may first have been granted what the other slot
gave up at the same loss (the model leaves that order open, log 31) (R113, R114). -/
def Obligations.PresenceLossHalts : Prop :=
  ∀ (s : State) (p : Port) (c : Instr), s.SupplyAgrees → s.queue.covered = s.coverage →
    (c = .silenceTimerExpiry p ∧ s.inReset = false ∧ (s.port p).silenceTimer.isSome = true ∨
      (∃ fr, c = .detach p ∧ s.Passes p .detach fr) ∨ ∃ fr, c = .attach p ∧ s.Passes p .attach fr) →
    ∃ t, exec c s = .next t ∧
      ∀ (i : SlotId) (f : FilterNo), (s.slot i).filter = some f → s.queue.covered[f] = true →
        t.linkCovers f = false → (s.slot i).state ≠ .halt →
        (t.slot i).state = .halt ∧ (t.slot i).haltTimer = some s.plant.haltLimit ∧
        t.arbiter.holdsAir i = false ∧ t.arbiter.holdsWater i = false ∧
        (∀ r ∈ t.arbiter.requests, r.slot ≠ i) ∧
        (t.slot i).valveTimer = none ∧ (t.slot i).stepTimer = none ∧
        (t.slot i).supplyWait = none ∧ (t.slot i).rampTimer = none ∧ (t.slot i).shortfall = none ∧
        (t.slot i).resettle = none ∧ (t.slot i).clearHold = .stopped ∧
        (t.slot i).filter = some f ∧ (t.slot i).stepIndex = (s.slot i).stepIndex ∧
        (t.slot i).repeatsLeft = (s.slot i).repeatsLeft ∧
        (t.slot i).delivered = (s.slot i).delivered ∧ (t.slot i).retryUsed = (s.slot i).retryUsed ∧
        (t.slot i).peakWaste = (s.slot i).peakWaste ∧
        ((t.slot i).stepElapsed = (s.slot i).stepElapsed ∧
            (t.slot i).noticeOwed = (s.slot i).noticeOwed ∨
          (s.slot i).state = .waitSupply ∧ (t.slot i).stepElapsed = 0 ∧
            (t.slot i).noticeOwed = some .stepRun)

/-- At the return of gallery presence the slot in HALT enters SETUP for the step it was in, with its repeats
as they were; its STEP_SET is owed, or has entered the port's queue and started the valve timer (R68, R69,
R116). -/
def Obligations.PresenceReturnSetsUp : Prop :=
  ∀ (s : State) (p : Port) (fr : Frame), s.SupplyAgrees → s.queue.covered = s.coverage →
    s.Passes p .attach fr →
    ∃ t, exec (.attach p) s = .next t ∧
      ∀ (i : SlotId) (f : FilterNo), (s.slot i).filter = some f → (s.slot i).state = .halt →
        s.queue.covered[f] = false → t.linkCovers f = true →
        (t.slot i).state = .setup ∧ (t.slot i).haltTimer = none ∧ (t.slot i).filter = some f ∧
        (t.slot i).stepIndex = (s.slot i).stepIndex ∧
        (t.slot i).repeatsLeft = (s.slot i).repeatsLeft ∧
        (t.slot i).delivered = (s.slot i).delivered ∧ s.SlotNoticed t i .stepSet ∧
        ((t.slot i).noticeOwed = some .stepSet ∧ (t.slot i).valveTimer = none ∨
          (t.slot i).noticeOwed = none ∧ (t.slot i).valveTimer = some s.plant.valveTravel)

/-- PING, READ_FILTER, READ_SLOTS, READ_MONITOR and READ_STATUS answer with the fields of their rules, in the
order in which the rules list them and behind the yes/no fields packed as bits, and change nothing; a filter
number above 15 is answered RANGE (R27, R63, R89, R102, R131, R150, R156). Where R159 leaves a layout open (the
records of one frame, fields that are absent for none, the order of the slot timers, the width of the fields in
litres, the live copies as one set) the bytes are the model's choice (log 11). -/
def Obligations.ReadsAnswerTheirFields : Prop :=
  ∀ (s : State) (p : Port) (fr : Frame),
    (s.Passes p .ping fr →
      let r := s.port p
      s.RepliesFrom s p .ping fr
        [0x80#8 :: (packBits [r.bounds.isSome] ++ u8 (portCode p) ++
          u8 (if r.role = some .supervisor then 1 else 0) ++
          ((r.bounds.map fun b => u8 b.first.val ++ u8 b.last.val).getD [0, 0]) ++
          u8 r.silenceLimit ++ u8 (r.silenceTimer.getD 0) ++ u16 r.errorCount.toNat ++
          u16 r.dropCount.toNat)]) ∧
    (s.Passes p .readFilter fr →
      (∀ f : FilterNo, f.val = byteAt fr.payload 0 →
        let r := s.filter f
        s.RepliesFrom s p .readFilter fr
          [0x80#8 :: (packBits [r.headloss.isSome, r.turbidity.isSome, r.headlossClamped,
              r.turbidityClamped, r.stale, r.deferralMark.isSome, r.washFailed, r.historyUnknown,
              r.lastOutcome.isSome, r.lastSequence.isSome, r.endOwed] ++
            u8 r.state.code ++ u8 r.standing.code ++ u16 r.area ++ u8 r.programme.val ++
            u16 r.headlossLimit ++ u16 r.turbidityLimit ++ u16 r.runLimit ++
            u16 (r.headloss.getD 0) ++ u16 (r.turbidity.getD 0) ++ u8 r.reportAge ++
            u16 r.runMinutes ++ u16 r.headlossFraction ++ u16 r.turbidityFraction ++
            u16 r.runFraction ++ u16 r.urgency ++ u16 (r.deferralMark.getD 0) ++
            u16 r.washCount.toNat ++ u8 r.abortCount ++
            u8 ((r.lastOutcome.map WashOutcome.code).getD 0) ++ u8 r.lastCause.code ++
            u16 ((r.lastSequence.map BitVec.toNat).getD 0) ++ u8 s.filters.rawClass.code ++
            u8 s.dueThreshold)]) ∧
      (15 < byteAt fr.payload 0 → s.Refuses p .readFilter fr .range)) ∧
    (s.Passes p .readSlots fr →
      let u := s.admission
      let a := s.arbiter
      let volume := fun (n : Nat) => u32 (if u.primed then n else 0)
      let holder := fun (i : Option SlotId) => u8 ((i.map slotCode).getD 0)
      let request := fun (n : Nat) => ((a.requests[n]?).map fun r =>
        u8 (slotCode r.slot) ++ u32 r.ticket.toNat ++ u8 r.set.code).getD [0, 0, 0, 0, 0, 0]
      let outstanding := fun (x : Slot) =>
        if x.state = .idle then 0 else x.reservation - x.delivered / 10
      let slot := fun (i : SlotId) =>
        let x := s.slot i
        let hold : Nat × Bool := match x.clearHold with
          | .stopped => (0, false)
          | .running n => (n, false)
          | .frozen n => (n, true)
        packBits [x.filter.isSome, x.page.isSome, hold.2, a.holdsAir i, a.holdsWater i, x.retryUsed,
            x.filterStale, x.historyUnknown, x.peakWaste.isSome, x.rateClamped, x.flowUnsupervised,
            x.ripenLong, x.noticeOwed.isSome] ++
          u8 x.state.code ++ u8 ((x.filter.map Fin.val).getD 0) ++ u8 ((x.page.map Fin.val).getD 0) ++
          u32 x.ticket.toNat ++ u8 x.programme.length ++ u8 x.stepIndex ++
          u8 (if x.state = .idle then 0 else x.step.kind.code) ++ u8 x.repeatsLeft ++
          u8 (if x.state = .idle then 0 else x.step.repeats - x.repeatsLeft + 1) ++
          u16 x.stepElapsed ++ u16 (x.valveTimer.getD 0) ++ u16 (x.stepTimer.getD 0) ++
          u16 (x.supplyWait.getD 0) ++ u8 (x.rampTimer.getD 0) ++ u8 (x.shortfall.getD 0) ++
          u8 (x.resettle.getD 0) ++ u16 (x.haltTimer.getD 0) ++ u16 hold.1 ++
          u16 (x.demands.getD x.stepIndex 0) ++
          u16 (if a.holdsWater i then a.waterDemand else 0) ++ u8 x.rampK ++ u32 x.reservation ++
          u32 x.delivered ++ u32 (outstanding x) ++ u16 (x.peakWaste.getD 0) ++
          u32 x.startMinute.toNat ++ u8 ((x.noticeOwed.map SlotNotice.code).getD 0)
      s.RepliesFrom s p .readSlots fr
        [0x00#8 :: (packBits [u.candidate.isSome, u.paused, u.primed, u.primed, u.lastNeeded.isSome,
              u.rotationStalled, u.forcedWaiting] ++
            u8 ((u.candidate.map Fin.val).getD 0) ++ u8 u.waitReason.code ++
            u16 (u.spacing.getD 0) ++ u8 u.activeCount ++ u8 s.plant.maxConcurrent ++
            u32 u.admissionCounter.toNat ++
            volume (tankAvailable s.plant (u.tankLevel.getD 0)) ++
            volume (basinFree s.plant (u.basinLevel.getD 0)) ++
            u32 (outstanding s.slotA + outstanding s.slotB) ++ u32 (u.lastNeeded.getD 0) ++
            u8 u.stallCount ++
            packBits [a.airHolder.isSome, a.waterHolder.isSome, (a.requests[0]?).isSome,
              (a.requests[1]?).isSome, a.tankLow, a.basinFull, a.tankFault, a.flowFault,
              a.blowerRun] ++
            holder a.airHolder ++ holder a.waterHolder ++ request 0 ++ request 1 ++
            u16 a.waterDemand),
         0x10#8 :: slot .a, 0xA0#8 :: slot .b]) ∧
    (s.Passes p .readMonitor fr →
      let m := s.monitor
      let channel := fun (c : Channel) =>
        let r := m.channel c
        let g := s.plant.channelCfg c
        packBits [r.fault, r.lastRaw.isSome, r.lastScaled.isSome, r.lastClamped, r.average.isSome,
            r.extreme.isSome] ++
          u16 r.faultEntries.toNat ++ u16 ((r.lastRaw.map BitVec.toNat).getD 0) ++
          u16 (r.lastScaled.getD 0) ++ u8 r.windowCount ++ u8 (2 ^ g.exponent) ++
          u16 (r.average.getD 0) ++ u16 (r.extreme.getD 0) ++ u8 g.exponent ++ u16 g.zero ++
          u16 g.span
      s.RepliesFrom s p .readMonitor fr
        [0x00#8 :: (channel .tank ++ channel .flow ++ channel .basin),
         0x90#8 :: (packBits [m.primed, m.tankLow, m.basinFull, m.signalFault, m.refill,
              m.waterView.isSome] ++
            u8 ((m.waterView.map slotCode).getD 0) ++ u32 m.unattributed.toNat ++
            u32 m.totalLitres.toNat ++ u8 m.totalRemainder ++ u16 m.rollover.toNat ++
            u32 m.sampleCount.toNat ++ u16 s.plant.tankLowLow ++ u16 s.plant.refillOn ++
            u16 s.plant.refillOff ++ u16 s.plant.basinMaximum)]) ∧
    (s.Passes p .readStatus fr →
      s.RepliesFrom s p .readStatus fr
        [0x80#8 :: (packBits [s.status.alert0, s.status.alert1] ++ u16 s.status.latched.toNat ++
          u16 s.status.live.toNat ++ u16 s.plant.alert0Mask.toNat ++ u8 s.plant.alert0Mode.code ++
          u16 s.plant.alert1Mask.toNat ++ u8 s.plant.alert1Mode.code)])

/-- READ_QUEUE answers the totals and up to four entries from a position of the queue, the third and fourth in
a second frame (R42). READ_JOURNAL answers the header and up to eight records from the start sequence, or from
the oldest held where the start is not held, one in the first frame and two in each further one (R145, R146).
Both change nothing (R160). That the totals, each entry and each record are records of their own, and the start
indication of the header one byte, is the model's choice (log 11), and so is the sequence number last in a
journal record (log 12). -/
def Obligations.QueueAndJournalAreRead : Prop :=
  (∀ (s : State) (p : Port) (fr : Frame), s.Passes p .readQueue fr →
     let start := byteAt fr.payload 0
     let count := byteAt fr.payload 1
     let shown := fun (n : Nat) => (s.queue.entries[start + n]?).toList.flatMap fun e =>
       packBits [e.reason.isSome, e.requestedBy.isSome] ++ u8 (start + n) ++ u8 e.filter.val ++
         u8 e.cls.code ++ u8 ((e.reason.map ForcedReason.code).getD 0) ++ u16 e.urgency ++
         u32 e.ticket.toNat ++ u32 e.joinMinute.toNat ++ u8 ((e.requestedBy.map portCode).getD 0) ++
         u8 (s.eligibility e).code
     let totals := packBits [s.queue.candidate.isSome] ++ u8 s.queue.entries.length ++
       u8 ((s.queue.candidate.map Fin.val).getD 0) ++ u32 s.queue.joinCounter.toNat ++
       u8 s.queue.serviceCount ++ u8 s.queue.floor ++ u8 s.filters.rawClass.code
     (15 < start ∨ count = 0 ∨ 4 < count → s.Refuses p .readQueue fr .range) ∧
     (start ≤ 15 → count = 1 →
       s.RepliesFrom s p .readQueue fr [0x80#8 :: (totals ++ shown 0)]) ∧
     (start ≤ 15 → count = 2 →
       s.RepliesFrom s p .readQueue fr [0x80#8 :: (totals ++ (shown 0 ++ shown 1))]) ∧
     (start ≤ 15 → count = 3 → s.queue.entries.length ≤ start + 2 →
       s.RepliesFrom s p .readQueue fr [0x80#8 :: (totals ++ (shown 0 ++ shown 1))]) ∧
     (start ≤ 15 → count = 3 → start + 2 < s.queue.entries.length →
       s.RepliesFrom s p .readQueue fr
         [0x00#8 :: (totals ++ (shown 0 ++ shown 1)), 0x90#8 :: shown 2]) ∧
     (start ≤ 15 → count = 4 → s.queue.entries.length ≤ start + 2 →
       s.RepliesFrom s p .readQueue fr [0x80#8 :: (totals ++ (shown 0 ++ shown 1))]) ∧
     (start ≤ 15 → count = 4 → start + 2 < s.queue.entries.length →
       s.RepliesFrom s p .readQueue fr
         [0x00#8 :: (totals ++ (shown 0 ++ shown 1)), 0x90#8 :: (shown 2 ++ shown 3)])) ∧
  (∀ (s : State) (p : Port) (fr : Frame), s.Passes p .readJournal fr →
     let start : Count16 := BitVec.ofNat 16 (word16At fr.payload 0)
     let count := byteAt fr.payload 2
     let held := s.journal.records
     let oldest : Count16 := s.journal.nextSequence - BitVec.ofNat 16 held.length
     let isHeld := decide ((start - oldest).toNat < held.length)
     let rs := (if isHeld then held.drop (start - oldest).toNat else held).take count
     let header := u8 held.length ++ u16 oldest.toNat ++ u16 s.journal.nextSequence.toNat ++
       u8 (if isHeld then 0 else 1)
     let shown := fun (n : Nat) => (rs[n]?).toList.flatMap fun r =>
       packBits [r.peakWaste.isSome, r.rateClamped, r.flowUnsupervised, r.ripenLong,
           r.historyUnknown] ++
         u8 r.filter.val ++ u8 ((r.page.map Fin.val).getD 0) ++ u32 r.startMinute.toNat ++
         u32 r.endMinute.toNat ++ u8 r.outcome.code ++ u8 r.cause.code ++ u8 r.stepIndex ++
         u32 r.reservation ++ u32 r.deliveredLitres ++ u8 r.retriesUsed ++
         u16 (r.peakWaste.getD 0) ++ u16 r.sequence.toNat
     (count = 0 ∨ 8 < count → s.Refuses p .readJournal fr .range) ∧
     (1 ≤ count → count ≤ 8 →
       (rs.length ≤ 1 → s.RepliesFrom s p .readJournal fr [0x80#8 :: (header ++ shown 0)]) ∧
       (2 ≤ rs.length → rs.length ≤ 3 →
         s.RepliesFrom s p .readJournal fr
           [0x00#8 :: (header ++ shown 0), 0x90#8 :: (shown 1 ++ shown 2)]) ∧
       (4 ≤ rs.length → rs.length ≤ 5 →
         s.RepliesFrom s p .readJournal fr
           [0x00#8 :: (header ++ shown 0), 0x10#8 :: (shown 1 ++ shown 2),
            0xA0#8 :: (shown 3 ++ shown 4)]) ∧
       (6 ≤ rs.length → rs.length ≤ 7 →
         s.RepliesFrom s p .readJournal fr
           [0x00#8 :: (header ++ shown 0), 0x10#8 :: (shown 1 ++ shown 2),
            0x20#8 :: (shown 3 ++ shown 4), 0xB0#8 :: (shown 5 ++ shown 6)]) ∧
       (rs.length = 8 →
         s.RepliesFrom s p .readJournal fr
           [0x00#8 :: (header ++ shown 0), 0x10#8 :: (shown 1 ++ shown 2),
            0x20#8 :: (shown 3 ++ shown 4), 0x30#8 :: (shown 5 ++ shown 6), 0xC0#8 :: shown 7])))

/-- READ_PAGE answers a part of a stored page, or of the staging page to the port that holds the latch, and
refuses the rest by the first case that applies; it changes nothing (R144, R160). The header's validity byte, a
flag byte for each filter, and the lock mask in one byte are the model's choice (logs 11 and 32). -/
def Obligations.PageIsRead : Prop :=
  ∀ (s : State) (p : Port) (fr : Frame), s.Passes p .readPage fr →
    let source := byteAt fr.payload 1
    let part := byteAt fr.payload 2
    let header := fun (n : Nat) (valid : Bool) (check : BitVec 16) =>
      u8 n ++ u8 source ++ u8 part ++ u8 (if valid then 0 else 1) ++ u16 check.toNat
    let positions := fun (count : Nat) (steps : List StepRec) =>
      u8 count ++ ((steps.drop (4 * part)).take 4).flatMap fun x =>
        u8 x.kind.code ++ u16 x.duration ++ u16 x.rate ++ u8 x.repeats ++ u16 x.ripenLimit ++
          u16 x.clearHold
    let rows := fun (q : PlantPage) =>
      if part < 4 then
        ((q.filters.toList.drop (4 * part)).take 4).flatMap fun c =>
          packBits [c.present] ++ u16 c.area ++ u8 c.programme.val ++ u16 c.headlossLimit ++
            u16 c.turbidityLimit ++ u16 c.runLimit
      else if part = 4 then
        u8 q.thresholdNormal ++ u8 q.thresholdElevated ++ u8 q.thresholdFlood ++ u8 q.staleLimit ++
          u8 q.floor ++ u8 q.maxConcurrent ++ u16 q.startSpacing ++ u16 q.pumpCapacity ++
          u16 q.tankArea ++ u16 q.reserveLevel ++ u16 q.basinArea ++ u16 q.basinMaximum ++
          u8 q.stallLimit ++ u16 q.valveTravel ++ u8 q.rampStart ++ u8 q.rampInterval ++
          u8 q.lowFlow ++ u8 q.flowGrace ++
          u8 (if q.shortfallPolicy = .retryOnce then 0 else 1) ++ u16 q.supplyWaitLimit ++
          u16 q.haltLimit
      else
        u8 q.tankCfg.exponent ++ u8 q.flowCfg.exponent ++ u8 q.basinCfg.exponent ++
          u16 q.tankCfg.zero ++ u16 q.flowCfg.zero ++ u16 q.basinCfg.zero ++ u16 q.tankCfg.span ++
          u16 q.flowCfg.span ++ u16 q.basinCfg.span ++ u16 q.tankLowLow ++ u16 q.refillOn ++
          u16 q.refillOff ++ u8 q.lockMask.toNat ++ u16 q.alert0Mask.toNat ++
          u8 (if q.alert0Mode = .latched then 0 else 1) ++ u16 q.alert1Mask.toNat ++
          u8 (if q.alert1Mode = .latched then 0 else 1)
    (8 < byteAt fr.payload 0 → s.Refuses p .readPage fr .range) ∧
    ∀ g : PageId, g.number = byteAt fr.payload 0 →
      let stored := s.store
      let validity : Bool × BitVec 16 := match g with
        | .programme n => ((stored.programmes[n]).valid, (stored.programmes[n]).check)
        | .plant => (stored.plant.valid, stored.plant.check)
      (1 < source ∨ g.lastPart < part → s.Refuses p .readPage fr .range) ∧
      (part ≤ g.lastPart → source = 0 →
        (s.store.committing = some g → s.Refuses p .readPage fr .busy) ∧
        (s.store.committing ≠ some g →
          s.RepliesFrom s p .readPage fr
            [0x80#8 :: (header g.number validity.1 validity.2 ++
              if validity.1 = true then
                match g with
                | .programme n =>
                  positions (stored.programmes[n]).steps.length (stored.programmes[n]).steps
                | .plant => rows stored.plant.content
              else [])])) ∧
      (part ≤ g.lastPart → source = 1 →
        (s.store.latch ≠ some p → s.Refuses p .readPage fr .latch) ∧
        (∀ x, s.store.latch = some p → s.store.staging = some x → x.page ≠ g →
          s.Refuses p .readPage fr .state) ∧
        (∀ x, s.store.latch = some p → s.store.staging = some x → x.page = g →
          s.RepliesFrom s p .readPage fr
            [0x80#8 :: (header g.number validity.1 validity.2 ++
              match x with
              | .programme _ count steps => positions count steps
              | .plant q => rows q)]))

/-! ### Filters -/

/-- A criterion fraction is 256 times the value divided by the limit, the remainder discarded, and 1023
where that is greater; an absent measurement gives 0 (R18). -/
def Obligations.FractionIsScaledAndBounded : Prop :=
  ∀ value limit : Nat, 0 < limit →
    (fraction value limit < 1023 →
      fraction value limit * limit ≤ 256 * value ∧
        256 * value < (fraction value limit + 1) * limit) ∧
    (fraction value limit = 1023 ↔ 1023 * limit ≤ 256 * value) ∧ fraction value limit ≤ 1023 ∧
    measureFraction (some value) limit = fraction value limit ∧ measureFraction none limit = 0

/-- The standing of a record under a due threshold is the first line of the table that applies (R21). -/
def Obligations.StandingFollowsTheTable : Prop :=
  ∀ (threshold : Nat) (r : FilterRec),
    let active := r.state = .standby ∨ r.state = .service
    let atLimit := 256 ≤ r.headlossFraction ∨ 256 ≤ r.turbidityFraction ∨ 256 ≤ r.runFraction
    let due := r.state = .service ∧ threshold ≤ r.urgency ∧
      (r.deferralMark = none ∨ ∃ m, r.deferralMark = some m ∧ m ≤ r.urgency)
    (r.state = .absent ∨ r.state = .wash → r.deriveStanding threshold = .out) ∧
    (active → r.washFailed = true → r.deriveStanding threshold = .below) ∧
    (active → r.washFailed = false → atLimit → r.deriveStanding threshold = .limit) ∧
    (active → r.washFailed = false → ¬ atLimit → due → r.deriveStanding threshold = .due) ∧
    (active → r.washFailed = false → ¬ atLimit → ¬ due → threshold ≤ r.urgency →
      r.deriveStanding threshold = .hold) ∧
    (active → r.washFailed = false → ¬ atLimit → ¬ due → r.urgency < threshold →
      r.deriveStanding threshold = .below)

/-- A REPORT for a filter in STANDBY or SERVICE is taken into its record: each measurement carried is
clamped and its fraction recomputed, then the urgency; the age and the stale flag are cleared, and no other
filter's need changes (R12, R13, R18, R19). Where the report takes an entry to FORCED that has waited beyond the
stall limit, FORCED_WAITING is latched, also if the filter is admitted in the same event (R31, R32, R62). -/
def Obligations.ReportIsTaken : Prop :=
  ∀ (s : State) (p : Port) (fr : Frame) (f : FilterNo), s.Passes p .report fr →
    f.val = byteAt fr.payload 0 → (s.filter f).state = .standby ∨ (s.filter f).state = .service →
    (bitAt fr.payload 1 0 = true ∨ bitAt fr.payload 1 1 = true) →
    let r := s.filter f
    let h := word16At fr.payload 2
    let u := word16At fr.payload 4
    let hf := if bitAt fr.payload 1 0 then fraction (min 9999 h) r.headlossLimit
      else r.headlossFraction
    let tf := if bitAt fr.payload 1 1 then fraction (min 9999 u) r.turbidityLimit
      else r.turbidityFraction
    ∃ t, s.Accepts p .report fr t ∧
      (t.filter f).need = FilterRec.need
        { r with
          headloss := if bitAt fr.payload 1 0 then some (min 9999 h) else r.headloss
          headlossClamped :=
            if bitAt fr.payload 1 0 then decide (10000 ≤ h) else r.headlossClamped
          turbidity := if bitAt fr.payload 1 1 then some (min 9999 u) else r.turbidity
          turbidityClamped :=
            if bitAt fr.payload 1 1 then decide (10000 ≤ u) else r.turbidityClamped
          headlossFraction := hf
          turbidityFraction := tf
          urgency := max (max hf tf) r.runFraction
          reportAge := 0
          stale := false } ∧
      (∀ g, g ≠ f → (t.filter g).need = (s.filter g).need) ∧
      (r.washFailed = false → r.standing ≠ .limit → 256 ≤ max (max hf tf) r.runFraction →
        s.admission.forcedWaiting = false → ∀ e, s.queue.entry f = some e → e.cls ≠ .forced →
          s.plant.stallLimit + e.joinMinute.toNat < s.clock.toNat →
          t.status.latched.getLsbD Flag.forcedWaiting.bit = true)

/-- A REPORT for a filter in WASH clears its age and stale flag and leaves its measurements, fractions and
urgency; the slot that holds it learns that stale is cleared and then takes the turbidity, which in RUN of a
WASTE step enters the peak and the clear hold (R14, R80, R81). -/
def Obligations.ReportReachesTheWash : Prop :=
  ∀ (s : State) (p : Port) (fr : Frame) (f : FilterNo) (i : SlotId), s.Passes p .report fr →
    f.val = byteAt fr.payload 0 → (s.filter f).state = .wash → s.holdingSlot f = some i →
    (bitAt fr.payload 1 0 = true ∨ bitAt fr.payload 1 1 = true) →
    let v := min 9999 (word16At fr.payload 4)
    let x := s.slot i
    let waste := x.state = .run ∧ x.step.kind = .waste ∧ bitAt fr.payload 1 1 = true
    let thawed := if (s.filter f).stale then x.clearHold.onStale false else x.clearHold
    ∃ t, s.Accepts p .report fr t ∧
      (t.filter f).need = FilterRec.need { s.filter f with reportAge := 0, stale := false } ∧
      (t.filter f).state = .wash ∧ t.queue = s.queue ∧
      (t.slot i).state = x.state ∧ (t.slot i).stepTimer = x.stepTimer ∧
      (t.slot i).filterStale = (if (s.filter f).stale then false else x.filterStale) ∧
      (waste → (t.slot i).peakWaste = some (max v (x.peakWaste.getD 0)) ∧
        (x.step.ripenLimit < v → (t.slot i).clearHold = .stopped) ∧
        (v ≤ x.step.ripenLimit →
          (t.slot i).clearHold =
            if thawed = .stopped then .running x.step.clearHold else thawed)) ∧
      (¬ waste → (t.slot i).peakWaste = x.peakWaste ∧ (t.slot i).clearHold = thawed)

/-- An accepted FILTER_MODE puts the filter in the mode it names, from which an admission in the same event
may take it to WASH; wash failed is cleared, and run minutes carried are taken with their fraction, the
urgency and history unknown (R4, R5, R18, R19, R23, R25). -/
def Obligations.ModeIsChanged : Prop :=
  ∀ (s : State) (p : Port) (fr : Frame) (f : FilterNo) (mode : FilterState),
    s.Passes p .filterMode fr → f.val = byteAt fr.payload 0 →
    (mode = .standby ∧ byteAt fr.payload 1 = 0 ∧ bitAt fr.payload 2 0 = false ∨
      mode = .service ∧ byteAt fr.payload 1 = 1) →
    (s.filter f).state = .standby ∨ (s.filter f).state = .service →
    let r := s.filter f
    let m := word16At fr.payload 3
    let rf := fraction m r.runLimit
    ∃ t, s.Accepts p .filterMode fr t ∧ ((t.filter f).state = mode ∨ (t.filter f).state = .wash) ∧
      (bitAt fr.payload 2 0 = false →
        (t.filter f).need = FilterRec.need { r with washFailed := false }) ∧
      (bitAt fr.payload 2 0 = true →
        (t.filter f).need = FilterRec.need
          { r with
            washFailed := false
            runMinutes := m
            historyUnknown := false
            runFraction := rf
            urgency := max (max r.headlossFraction r.turbidityFraction) rf }) ∧
      ∀ g, g ≠ f → (t.filter g).need = (s.filter g).need

/-- The requests to the Filter Table and the Wash Queue that are refused, each by the first case of its table
that applies, with no effect but the answer (R4, R12, R34, R37). -/
def Obligations.TableRequestsAreRefused : Prop :=
  ∀ (s : State) (p : Port) (fr : Frame) (f : FilterNo),
    let n := byteAt fr.payload 0
    let kind := byteAt fr.payload 1
    (s.Passes p .report fr → f.val = n →
      (bitAt fr.payload 1 0 = false → bitAt fr.payload 1 1 = false → s.Refuses p .report fr .format) ∧
      (bitAt fr.payload 1 0 = true ∨ bitAt fr.payload 1 1 = true → (s.filter f).state = .absent →
        s.Refuses p .report fr .noFilter)) ∧
    (s.Passes p .filterMode fr →
      (15 < n ∨ 1 < kind ∨ kind = 0 ∧ bitAt fr.payload 2 0 = true →
        s.Refuses p .filterMode fr .range) ∧
      (f.val = n → kind = 0 ∧ bitAt fr.payload 2 0 = false ∨ kind = 1 →
        ((s.filter f).state = .absent → s.Refuses p .filterMode fr .noFilter) ∧
        ((s.filter f).state = .wash → s.Refuses p .filterMode fr .state))) ∧
    (s.Passes p .washRequest fr →
      (15 < n ∨ 1 < kind → s.Refuses p .washRequest fr .range) ∧
      (f.val = n → kind = 1 → (s.port p).role = some .gallery →
        s.Refuses p .washRequest fr .role) ∧
      (f.val = n → kind = 0 ∨ kind = 1 ∧ (s.port p).role ≠ some .gallery →
        ((s.filter f).state = .absent → s.Refuses p .washRequest fr .noFilter) ∧
        ((s.filter f).state = .wash → s.Refuses p .washRequest fr .state))) ∧
    (s.Passes p .washWithdraw fr →
      (15 < n → s.Refuses p .washWithdraw fr .range) ∧
      (f.val = n → (s.filter f).state = .absent → s.Refuses p .washWithdraw fr .noFilter) ∧
      (f.val = n → (s.filter f).state ≠ .absent →
        (s.queue.entry f = none → s.Refuses p .washWithdraw fr .state) ∧
        (∀ e, s.queue.entry f = some e → e.cls = .forced →
          e.reason = some .limit ∨ (s.port p).role = some .gallery →
          s.Refuses p .washWithdraw fr .forced)))

/-- The minute event advances the plant clock, starts the seconds again, and takes the minute at each filter by
its state: age and stale of any filter that is present, run minutes, their fraction and the urgency of one in
SERVICE; stale becoming set reaches the slot of a filter in WASH and freezes its running clear hold (R15, R17,
R18, R19, R81, R161). The stall count rises by 1 where the stall condition holds before and after without an
admission, and rotation stalled follows it (R61). The clock has advanced before either block takes its minute
(the model's choice, log 30). -/
def Obligations.MinuteIsTaken : Prop :=
  ∀ s : State, s.inReset = false →
    ∃ t, exec .minuteEvent s = .next t ∧ t.clock = s.clock + 1 ∧ t.seconds = 0 ∧
      (s.admission.stallHolds = true → s.stallCondition = true → t.stallCondition = true →
        t.admission.admissionCounter = s.admission.admissionCounter →
        t.admission.stallCount = min 255 (s.admission.stallCount + 1) ∧
        t.admission.rotationStalled = decide (s.plant.stallLimit ≤ t.admission.stallCount)) ∧
      ∀ f : FilterNo,
        let r := s.filter f
        let age := min 255 (r.reportAge + 1)
        let stale := r.stale || decide (s.plant.staleLimit ≤ age)
        let run := min 65535 (r.runMinutes + 1)
        let rf := fraction run r.runLimit
        (r.state = .absent → (t.filter f).need = r.need) ∧
        (r.state = .standby ∨ r.state = .wash →
          (t.filter f).need = FilterRec.need { r with reportAge := age, stale := stale }) ∧
        (r.state = .service →
          (t.filter f).need = FilterRec.need
            { r with
              reportAge := age
              stale := stale
              runMinutes := run
              runFraction := rf
              urgency := max (max r.headlossFraction r.turbidityFraction) rf }) ∧
        (s.SupplyAgrees → ∀ i : SlotId, (s.slot i).filter = some f →
          let x := s.slot i
          let y := t.slot i
          (r.stale = stale → y.filterStale = x.filterStale ∧ y.clearHold = x.clearHold) ∧
          (r.stale = false → stale = true → y.filterStale = true ∧
            (∀ n, x.clearHold = .running n → y.clearHold = .frozen n) ∧
            ((∀ n, x.clearHold ≠ .running n) → y.clearHold = x.clearHold)))

/-! ### The wash queue -/

/-- A standing notice is recorded in the queue's view and acts on the filter's entry by the two tables; no
other entry and no other view changes, and a queue in order stays in order (R29, R30, R31, R32). The unbounded
number that a new entry takes beside its join ticket is the model's (log 15). -/
def Obligations.NoticeActsOnTheEntry : Prop :=
  ∀ (q : WashQueue) (minute : Count32) (f : FilterNo) (standing : Standing) (urgency : Nat),
    let t := q.takeNotice minute f standing urgency
    t.views[f] = ⟨standing, urgency⟩ ∧ (∀ g, g ≠ f → t.views[g] = q.views[g]) ∧
    (∀ g, g ≠ f → t.entry g = q.entry g) ∧ (q.Ordered → t.Ordered) ∧
    (q.entry f = none →
      (standing = .limit → t.joinCounter = q.joinCounter + 1 ∧ t.entry f = some
        { filter := f, cls := .forced, reason := some .limit, urgency := urgency,
          ticket := q.joinCounter + 1, joinMinute := minute, requestedBy := none,
          order := q.joins + 1 }) ∧
      (standing = .due → t.joinCounter = q.joinCounter + 1 ∧ t.entry f = some
        { filter := f, cls := .due, reason := none, urgency := urgency,
          ticket := q.joinCounter + 1, joinMinute := minute, requestedBy := none,
          order := q.joins + 1 }) ∧
      (standing = .hold ∨ standing = .below ∨ standing = .out →
        t.entry f = none ∧ t.joinCounter = q.joinCounter)) ∧
    ∀ e, q.entry f = some e →
      t.joinCounter = q.joinCounter ∧
      (standing = .limit → t.entry f =
        some { e with cls := .forced, reason := some .limit, urgency := urgency }) ∧
      (standing = .due ∨ standing = .hold → t.entry f = some { e with urgency := urgency }) ∧
      (standing = .below → e.cls = .due → t.entry f = none) ∧
      (standing = .below → e.cls ≠ .due → t.entry f = some { e with urgency := urgency }) ∧
      (standing = .out → t.entry f = none)

/-- An accepted WASH_REQUEST makes or raises the filter's entry and clears wash failed; the entry stands so
unless the filter is admitted in the same event, and is raised to LIMIT where the cleared flag held back a
limit (R23, R34, R35, R36). An entry forced so that has waited beyond the stall limit latches FORCED_WAITING, also
if the filter is admitted in the same event (R62). The unbounded number that a new entry takes beside its join
ticket is the model's (log 15). -/
def Obligations.WashIsRequested : Prop :=
  ∀ (s : State) (p : Port) (fr : Frame) (f : FilterNo), s.Passes p .washRequest fr →
    f.val = byteAt fr.payload 0 →
    (byteAt fr.payload 1 = 0 ∨ byteAt fr.payload 1 = 1 ∧ (s.port p).role = some .supervisor) →
    (s.filter f).state = .standby ∨ (s.filter f).state = .service →
    let force := byteAt fr.payload 1 = 1
    ∃ t, s.Accepts p .washRequest fr t ∧ (t.filter f).washFailed = false ∧
      (t.filter f).urgency = (s.filter f).urgency ∧
      (force → s.admission.forcedWaiting = false → ∀ e, s.queue.entry f = some e →
        e.cls ≠ .forced → s.plant.stallLimit + e.joinMinute.toNat < s.clock.toNat →
        t.status.latched.getLsbD Flag.forcedWaiting.bit = true) ∧
      ((t.filter f).state = .wash ∨
        (t.filter f).state = (s.filter f).state ∧
        ((s.filter f).washFailed = true → ∃ e, t.queue.entry f = some e ∧ e.cls ≠ .due ∧
          (256 ≤ (s.filter f).headlossFraction ∨ 256 ≤ (s.filter f).turbidityFraction ∨
              256 ≤ (s.filter f).runFraction → (s.filter f).standing ≠ .limit →
            e.cls = .forced ∧ e.reason = some .limit)) ∧
        ((s.filter f).washFailed = false →
          (s.queue.entry f = none → t.queue.entry f = some
            { filter := f, cls := if force then .forced else .requested,
              reason := if force then some .supervisor else none,
              urgency := (s.queue.views[f]).urgency, ticket := s.queue.joinCounter + 1,
              joinMinute := s.clock, requestedBy := some p, order := s.queue.joins + 1 }) ∧
          ∀ e, s.queue.entry f = some e →
            (e.cls = .due ∨ e.cls = .requested → t.queue.entry f = some
              { e with
                cls := if force then .forced else .requested
                reason := if force then some .supervisor else e.reason
                requestedBy := some p }) ∧
            (e.cls = .forced → t.queue.entry f = some e)))

/-- An accepted WASH_WITHDRAW takes a DUE entry out and sets the deferral mark 32 above the urgency; a
REQUESTED or supervisor-forced entry becomes DUE again where the queue's view is DUE, and leaves where it is
not, without a mark (R24, R37, R38). -/
def Obligations.WashIsWithdrawn : Prop :=
  ∀ (s : State) (p : Port) (fr : Frame) (f : FilterNo) (e : Entry), s.Passes p .washWithdraw fr →
    f.val = byteAt fr.payload 0 → (s.filter f).state = .standby ∨ (s.filter f).state = .service →
    s.queue.entry f = some e →
    (e.cls = .due →
      ∃ t, s.Accepts p .washWithdraw fr t ∧
        (t.filter f).deferralMark = some (min 1023 ((s.filter f).urgency + 32)) ∧
        ((s.filter f).FractionsCurrent → (s.filter f).headlossFraction < 256 →
          (s.filter f).turbidityFraction < 256 → (s.filter f).runFraction < 256 →
          t.queue.entry f = none ∧ (t.filter f).state = (s.filter f).state ∧
          ((t.filter f).standing = .hold ∨ (t.filter f).standing = .below))) ∧
    (e.cls = .requested ∨
        e.cls = .forced ∧ e.reason = some .supervisor ∧ (s.port p).role = some .supervisor →
      ∃ t, s.Accepts p .washWithdraw fr t ∧
        (t.filter f).deferralMark = (s.filter f).deferralMark ∧
        ((s.queue.views[f]).standing ≠ .due → t.queue.entry f = none) ∧
        ((s.queue.views[f]).standing = .due →
          (t.filter f).state = .wash ∨
          t.queue.entry f =
            some { e with cls := .due, reason := none, requestedBy := none }))

/-! ### Admission -/

/-- The demand of a water step is its rate times the area over 360 rounded half up, bounded by the pump
capacity, and 0 for any other kind; the reservation sums demand times duration times repeat (R52, R53). -/
def Obligations.ReservationSumsDemands : Prop :=
  ∀ (area capacity : Nat) (x : StepRec) (steps : List StepRec),
    (x.kind = .airWater ∨ x.kind = .water →
      stepDemand area capacity x ≤ capacity ∧
      (stepClamped area capacity x = true ↔ 360 * (capacity + 1) ≤ x.rate * area + 180) ∧
      (stepClamped area capacity x = false →
        360 * stepDemand area capacity x ≤ x.rate * area + 180 ∧
        x.rate * area + 180 < 360 * (stepDemand area capacity x + 1)) ∧
      (stepClamped area capacity x = true → stepDemand area capacity x = capacity)) ∧
    (x.kind ≠ .airWater → x.kind ≠ .water → stepDemand area capacity x = 0) ∧
    reservation area capacity [] = 0 ∧
    reservation area capacity (x :: steps) =
      stepDemand area capacity x * x.duration * x.repeats + reservation area capacity steps ∧
    (area ≤ 3000 → ProgrammeSound steps → reservation area capacity steps ≤ 1296000000)

/-- The tank's available and the basin's free volume in litres: the depth above the reserve, and below the
maximum, times the area over 10, the remainder discarded; 0 on the other side (R54, R55). -/
def Obligations.TankAndBasinVolumes : Prop :=
  ∀ (q : PlantPage) (level : Nat),
    (level ≤ q.reserveLevel → tankAvailable q level = 0) ∧
    (∀ d, level = q.reserveLevel + d →
      10 * tankAvailable q level ≤ d * q.tankArea ∧
        d * q.tankArea < 10 * tankAvailable q level + 10) ∧
    (q.basinMaximum ≤ level → basinFree q level = 0) ∧
    (∀ d, q.basinMaximum = level + d →
      10 * basinFree q level ≤ d * q.basinArea ∧
        d * q.basinArea < 10 * basinFree q level + 10) ∧
    (q.InRange → level ≤ 9999 → tankAvailable q level ≤ 19998000 ∧ basinFree q level ≤ 19998000)

/-- Where the seven conditions hold for the candidate, it is admitted: its entry leaves, the filter goes to
WASH, and slot A, or B where A is active, is loaded with the wash context in SETUP under the next ticket
(R6, R41, R47, R48, R50, R57, R58, R59, R68, R69). The command ADMISSION, which examines the candidate outside the
events of R46, is the model's choice (log 16). -/
def Obligations.CandidateIsAdmitted : Prop :=
  ∀ (s : State) (f : FilterNo), s.inReset = false → s.SupplyAgrees →
    s.admission.candidate = some f → s.firstEligible = some f →
    s.admission.activeCount < 2 → s.admission.activeCount < s.plant.maxConcurrent →
    s.admission.paused = false → s.admission.spacing = none → s.admission.monitorReady = true →
    s.neededVolume f ≤ tankAvailable s.plant (s.admission.tankLevel.getD 0) →
    s.neededVolume f ≤ basinFree s.plant (s.admission.basinLevel.getD 0) →
    let steps := (s.store.programmes[(s.filter f).programme]).steps
    let area := (s.filter f).area
    let cap := s.plant.pumpCapacity
    ∃ t i, exec .admission s = .next t ∧ (s.slot i).state = .idle ∧
      (i = .a ∨ s.slotA.state ≠ .idle) ∧
      (t.filter f).state = .wash ∧ (t.filter f).standing = .out ∧ (t.filter f).endOwed = false ∧
      (t.filter f).need = (s.filter f).need ∧
      t.queue.entry f = none ∧ (t.queue.views[f]).standing = .out ∧
      (t.queue.views[f]).urgency = (s.queue.views[f]).urgency ∧
      (t.slot i).filter = some f ∧ (t.slot i).page = some (s.filter f).programme ∧
      (t.slot i).ticket = s.admission.admissionCounter + 1 ∧ (t.slot i).programme = steps ∧
      (t.slot i).areaCopy = area ∧ (t.slot i).pumpCopy = cap ∧
      (t.slot i).demands = steps.map (stepDemand area cap) ∧
      (t.slot i).reservation = reservation area cap steps ∧ (t.slot i).delivered = 0 ∧
      (t.slot i).stepIndex = 0 ∧ (t.slot i).repeatsLeft = (t.slot i).step.repeats ∧
      (t.slot i).retryUsed = false ∧ (t.slot i).peakWaste = none ∧
      (t.slot i).startMinute = s.clock ∧
      (t.slot i).rateClamped = steps.any (stepClamped area cap) ∧
      (t.slot i).flowUnsupervised = false ∧ (t.slot i).ripenLong = false ∧
      (t.slot i).historyUnknown = (s.filter f).historyUnknown ∧
      (t.slot i).filterStale = (s.filter f).stale ∧
      (s.linkCovers f = true → (t.slot i).state = .setup ∧ s.SlotNoticed t i .stepSet ∧
        ((t.slot i).noticeOwed = some .stepSet ∧ (t.slot i).valveTimer = none ∨
          (t.slot i).noticeOwed = none ∧ (t.slot i).valveTimer = some s.plant.valveTravel)) ∧
      (s.linkCovers f = false → (t.slot i).state = .halt ∧
        (t.slot i).haltTimer = some s.plant.haltLimit) ∧
      (s.plant.startSpacing ≠ 0 →
        t.admission.spacing = some s.plant.startSpacing ∧
        t.admission.admissionCounter = s.admission.admissionCounter + 1 ∧
        t.admission.activeCount = s.admission.activeCount + 1 ∧ t.admission.stallCount = 0)

/-- The spacing timer's expiry stops it and examines the candidate: the first condition of admission that
fails sets the wait reason, with the needed volume where the fit was tested; where none fails the candidate
is admitted (R46, R47, R50, R51, R56). -/
def Obligations.ExaminationFindsTheFirstFailure : Prop :=
  ∀ (s : State) (f : FilterNo), s.inReset = false → s.CandidateCurrent →
    s.admission.candidate = some f → s.admission.spacing.isSome = true →
    let u := s.admission
    let needed := (s.slotA.outstanding + s.slotB.outstanding) +
      reservation (s.filter f).area s.plant.pumpCapacity
        (s.store.programmes[(s.filter f).programme]).steps
    let tank := tankAvailable s.plant (u.tankLevel.getD 0)
    let basin := basinFree s.plant (u.basinLevel.getD 0)
    let ready := u.primed = true ∧ u.tankView = ⟨false, true⟩ ∧ u.flowView = ⟨false, true⟩ ∧
      u.basinView = ⟨false, true⟩
    ∃ t, exec .spacingTimerExpiry s = .next t ∧
      let waits := fun (reason : WaitReason) (volume : Option Nat) =>
        t.admission.waitReason = reason ∧ t.admission.lastNeeded = volume ∧
          t.admission.candidate = some f ∧ t.admission.spacing = none ∧
          t.slotA.filter = s.slotA.filter ∧ t.slotB.filter = s.slotB.filter
      (2 ≤ u.activeCount → waits .slot none) ∧
      (u.activeCount < 2 →
        (s.plant.maxConcurrent ≤ u.activeCount → waits .concurrency none) ∧
        (u.activeCount < s.plant.maxConcurrent →
          (u.paused = true → waits .paused none) ∧
          (u.paused = false →
            (¬ ready → waits .monitor none) ∧
            (ready →
              (tank < needed → waits .tank (some needed)) ∧
              (needed ≤ tank → basin < needed → waits .basin (some needed)) ∧
              (needed ≤ tank → needed ≤ basin → (t.filter f).state = .wash)))))

/-! ### A running wash -/

/-- A STEP_READY for the slot's step in SETUP, once its STEP_SET has entered the port's queue, stops the valve
timer: a step that needs no supply runs, and any other asks for its whole set; where the slot has entered RUN, its
STEP_RUN is owed or has entered the covering port's queue (R69, R71, R72, R74). -/
def Obligations.StepReadyIsTaken : Prop :=
  ∀ (s : State) (p : Port) (fr : Frame) (f : FilterNo) (i : SlotId), s.SupplyAgrees →
    s.ReachesSlot p .stepReady fr f i → byteAt fr.payload 1 = (s.slot i).stepIndex →
    (s.slot i).state = .setup → (s.slot i).noticeOwed ≠ some .stepSet →
    ∃ t, s.Accepts p .stepReady fr t ∧ (t.slot i).valveTimer = none ∧
      (t.slot i).stepIndex = (s.slot i).stepIndex ∧
      (t.slot i).repeatsLeft = (s.slot i).repeatsLeft ∧
      ((s.slot i).step.kind.needs = none →
        (t.slot i).state = .run ∧ (t.slot i).stepTimer = some (s.slot i).step.duration ∧
        (t.slot i).stepElapsed = 0 ∧ t.arbiter = s.arbiter ∧ s.SlotNoticed t i .stepRun ∧
        ((s.slot i).step.kind = .waste →
          (t.slot i).peakWaste = some ((s.slot i).peakWaste.getD 0))) ∧
      ∀ set, (s.slot i).step.kind.needs = some set →
        s.AskedFor t i set ∧
        (s.arbiter.requests = [] → ((t.slot i).state = .run ↔ s.arbiter.grantable set = true))

/-- The requests to the slots that are refused, each by the first case of its table that applies, with no
effect but the answer (R71, R76, R83, R84). -/
def Obligations.SlotRequestsAreRefused : Prop :=
  ∀ (s : State) (p : Port) (fr : Frame),
    (∀ k : ReqKind, k = .washAbort ∨ k = .stepReady ∨ k = .stepDone ∨ k = .stepFault →
      s.Passes p k fr →
      (15 < byteAt fr.payload 0 → s.Refuses p k fr .range) ∧
      ∀ f : FilterNo, f.val = byteAt fr.payload 0 →
        ((s.filter f).state = .absent → s.Refuses p k fr .noFilter) ∧
        ((s.filter f).state = .standby ∨ (s.filter f).state = .service →
          s.Refuses p k fr .state)) ∧
    (∀ (f : FilterNo) (i : SlotId), s.ReachesSlot p .stepReady fr f i →
      (byteAt fr.payload 1 ≠ (s.slot i).stepIndex → s.Refuses p .stepReady fr .staleStep) ∧
      (byteAt fr.payload 1 = (s.slot i).stepIndex →
        (s.slot i).state ≠ .setup ∨ (s.slot i).noticeOwed = some .stepSet →
        s.Refuses p .stepReady fr .state)) ∧
    (∀ (f : FilterNo) (i : SlotId), s.ReachesSlot p .stepDone fr f i →
      (byteAt fr.payload 1 ≠ (s.slot i).stepIndex → s.Refuses p .stepDone fr .staleStep) ∧
      (byteAt fr.payload 1 = (s.slot i).stepIndex →
        (s.slot i).state ≠ .run ∨ (s.slot i).step.kind ≠ .drain →
        s.Refuses p .stepDone fr .state))

/-- At the end of a repeat with another one left, the slot runs the step again with its grants kept, its step
timer and its ramp started afresh, and STEP_RUN is owed with the new repeat index or has entered the covering
port's queue; a STEP_DONE that ended the repeat is answered OK (R69, R74, R76, R77, R78, R99, R100). -/
def Obligations.RepeatRunsAgain : Prop :=
  ∀ (s : State) (i : SlotId) (c : Instr), s.SupplyAgrees → s.EndsRepeat i c →
    1 < (s.slot i).repeatsLeft →
    ∃ t, exec c s = .next t ∧ (t.slot i).state = .run ∧
      (t.slot i).repeatsLeft = (s.slot i).repeatsLeft - 1 ∧
      (t.slot i).stepIndex = (s.slot i).stepIndex ∧ (t.slot i).filter = (s.slot i).filter ∧
      (t.slot i).stepTimer = some (s.slot i).step.duration ∧ (t.slot i).stepElapsed = 0 ∧
      (t.slot i).clearHold = .stopped ∧ (t.slot i).shortfall = none ∧
      (t.slot i).ripenLong = s.ripensLong i c ∧ s.SlotNoticed t i .stepRun ∧ s.AnswersSlot t i c ∧
      t.arbiter.airHolder = s.arbiter.airHolder ∧ t.arbiter.waterHolder = s.arbiter.waterHolder ∧
      ((s.slot i).step.kind.isWater = true →
        (t.slot i).rampK = s.plant.rampStart ∧
        t.arbiter.waterDemand = (s.slot i).demandNow * s.plant.rampStart / 16 ∧
        (t.slot i).rampTimer =
          if s.plant.rampStart < 16 then some s.plant.rampInterval else none)

/-- At the end of the last repeat of a step that is not the last, the slot releases its supply, which may go to
the other slot, and enters SETUP for the next step, with its STEP_SET owed or entered in the covering port's
queue; a STEP_DONE that ended the repeat is answered OK (R68, R69, R76, R77, R79, R97). -/
def Obligations.NextStepIsSetUp : Prop :=
  ∀ (s : State) (i : SlotId) (c : Instr), s.SupplyAgrees → s.EndsRepeat i c →
    (s.slot i).repeatsLeft ≤ 1 → (s.slot i).stepIndex + 1 < (s.slot i).programme.length →
    ∃ t, exec c s = .next t ∧ (t.slot i).state = .setup ∧
      (t.slot i).stepIndex = (s.slot i).stepIndex + 1 ∧
      (t.slot i).repeatsLeft = (t.slot i).step.repeats ∧
      (t.slot i).programme = (s.slot i).programme ∧ (t.slot i).filter = (s.slot i).filter ∧
      (t.slot i).delivered = (s.slot i).delivered ∧
      (t.slot i).stepTimer = none ∧ (t.slot i).rampTimer = none ∧ (t.slot i).shortfall = none ∧
      (t.slot i).clearHold = .stopped ∧ (t.slot i).ripenLong = s.ripensLong i c ∧
      t.arbiter.holdsAir i = false ∧ t.arbiter.holdsWater i = false ∧
      ((s.slot i).step.kind.isWater = true → t.arbiter.waterHolder = none →
        t.arbiter.waterDemand = 0) ∧
      s.SlotNoticed t i .stepSet ∧ s.AnswersSlot t i c ∧
      ((t.slot i).noticeOwed = some .stepSet ∧ (t.slot i).valveTimer = none ∨
        (t.slot i).noticeOwed = none ∧ (t.slot i).valveTimer = some s.plant.valveTravel)

/-- At the end of the last repeat of the last step the wash completes: the record is journalled, the filter
goes to SERVICE, or to STANDBY with RIPEN_LONG latched, with nothing left of its need, and the slot is given
up. A filter that the plant page in force marks not present goes to ABSENT with its need as it stands, and no
standing notice is sent. WASH_END is owed or has entered the covering port's queue, and a STEP_DONE that ended the
wash is answered OK (R7, R9, R26, R75, R76, R77, R85, R86, R88). -/
def Obligations.WashCompletes : Prop :=
  ∀ (s : State) (i : SlotId) (f : FilterNo) (c : Instr), s.SupplyAgrees → s.EndsRepeat i c →
    (s.slot i).repeatsLeft ≤ 1 → (s.slot i).programme.length ≤ (s.slot i).stepIndex + 1 →
    (s.slot i).filter = some f → 0 < s.dueThreshold →
    let long := s.ripensLong i c
    let outcome : WashOutcome := if long then .completeRipenLong else .complete
    ∃ t, exec c s = .next t ∧
      s.WashEnded t i f { s.slot i with ripenLong := long } outcome .noCause ∧ s.AnswersSlot t i c ∧
      (t.filter f).reportAge = (s.filter f).reportAge ∧ (t.filter f).stale = (s.filter f).stale ∧
      (long = true → t.status.latched.getLsbD Flag.ripenLong.bit = true) ∧
      ((s.plant.filters[f]).present = true →
        (t.filter f).state = (if long then .standby else .service) ∧
        (t.filter f).standing = .below ∧ (t.filter f).runMinutes = 0 ∧
        (t.filter f).headloss = none ∧ (t.filter f).turbidity = none ∧
        (t.filter f).headlossFraction = 0 ∧ (t.filter f).turbidityFraction = 0 ∧
        (t.filter f).runFraction = 0 ∧ (t.filter f).urgency = 0 ∧
        (t.filter f).deferralMark = none ∧ (t.filter f).washFailed = false ∧
        (t.filter f).historyUnknown = false) ∧
      ((s.plant.filters[f]).present = false →
        (t.filter f).state = .absent ∧ (t.filter f).standing = .out ∧
        (t.filter f).runMinutes = (s.filter f).runMinutes ∧
        (t.filter f).headloss = (s.filter f).headloss ∧
        (t.filter f).turbidity = (s.filter f).turbidity ∧
        (t.filter f).headlossFraction = (s.filter f).headlossFraction ∧
        (t.filter f).turbidityFraction = (s.filter f).turbidityFraction ∧
        (t.filter f).runFraction = (s.filter f).runFraction ∧
        (t.filter f).urgency = (s.filter f).urgency ∧
        (t.filter f).deferralMark = (s.filter f).deferralMark ∧
        (t.filter f).washFailed = (s.filter f).washFailed ∧
        (t.filter f).historyUnknown = (s.filter f).historyUnknown ∧
        t.queue.views[f] = s.queue.views[f])

/-- A wash ends ABORTED with its cause at the expiry of the valve timer, the supply-wait timer, the halt timer
or the step timer of a DRAIN step, at an accepted WASH_ABORT and at an accepted STEP_FAULT: the record is
journalled, WASH_ABORTED latched, the supply given up, and the filter left in STANDBY with wash failed set.
WASH_END is owed or has entered the covering port's queue, and the request, where one caused the abort, is
answered OK (R8, R9, R26, R70, R75, R83, R84, R86, R88, R111, R117). -/
def Obligations.WashAborts : Prop :=
  ∀ (s : State) (i : SlotId) (f : FilterNo) (c : Instr) (cause : Cause), s.SupplyAgrees →
    (s.slot i).filter = some f →
    (s.inReset = false ∧
        (c = .valveTimerExpiry i ∧ cause = .valveTimeout ∧ (s.slot i).valveTimer.isSome = true ∨
          c = .supplyWaitExpiry i ∧ cause = .supplyWait ∧ (s.slot i).supplyWait.isSome = true ∨
          c = .haltTimerExpiry i ∧ cause = .portLapsed ∧ (s.slot i).haltTimer.isSome = true ∨
          c = .stepTimerExpiry i ∧ cause = .drainTimeout ∧ (s.slot i).stepTimer.isSome = true ∧
            (s.slot i).step.kind = .drain) ∨
      ∃ p fr, c = .washAbort p ∧ cause = .requested ∧ s.ReachesSlot p .washAbort fr f i ∨
        c = .stepFault p ∧ cause = .valveFault ∧ s.ReachesSlot p .stepFault fr f i) →
    ∃ t, exec c s = .next t ∧ s.WashEnded t i f (s.slot i) .aborted cause ∧ s.AnswersSlot t i c ∧
      s.FilterAborted t f ∧ t.status.latched.getLsbD Flag.washAborted.bit = true

/-- A ramp timer's expiry raises k by 1 and the demand of a water holder with it, and starts the timer again
below 16; nothing else changes (R99, R100). -/
def Obligations.RampRises : Prop :=
  ∀ (s : State) (i : SlotId), s.inReset = false → (s.slot i).rampTimer.isSome = true →
    ∃ t, exec (.rampTimerExpiry i) s = .next t ∧
      NoticesEntered
        { State.setSlot i
            { s.slot i with
              rampK := (s.slot i).rampK + 1
              rampTimer :=
                if (s.slot i).rampK + 1 < 16 then some s.plant.rampInterval else none } s with
          arbiter :=
            { s.arbiter with
              waterDemand :=
                if s.arbiter.waterHolder = some i then
                  (s.slot i).demandNow * ((s.slot i).rampK + 1) / 16
                else s.arbiter.waterDemand } } t

/-- A shortfall releases the slot's supply and latches SUPPLY_SHORT; under RETRY_ONCE the first of a wash leads
to RESETTLE for 30 s with the repeat kept, and any other aborts the wash with SUPPLY_SHORT, its WASH_END owed or
sent (R26, R88, R103, R108, R109). -/
def Obligations.ShortfallIsTaken : Prop :=
  ∀ (s : State) (i : SlotId) (f : FilterNo), s.SupplyAgrees → s.inReset = false →
    (s.slot i).shortfall.isSome = true → (s.slot i).filter = some f →
    ∃ t, exec (.shortfallTimerExpiry i) s = .next t ∧
      t.arbiter.holdsAir i = false ∧ t.arbiter.holdsWater i = false ∧
      t.status.latched.getLsbD Flag.supplyShort.bit = true ∧
      (s.plant.shortfallPolicy = .retryOnce → (s.slot i).retryUsed = false →
        (t.slot i).state = .resettle ∧ (t.slot i).resettle = some 30 ∧
        (t.slot i).retryUsed = true ∧ (t.slot i).stepTimer = none ∧
        (t.slot i).rampTimer = none ∧ (t.slot i).shortfall = none ∧
        (t.slot i).filter = some f ∧ (t.slot i).stepIndex = (s.slot i).stepIndex ∧
        (t.slot i).repeatsLeft = (s.slot i).repeatsLeft ∧
        (t.slot i).stepElapsed = (s.slot i).stepElapsed ∧
        (t.slot i).delivered = (s.slot i).delivered ∧ t.journal = s.journal) ∧
      (s.plant.shortfallPolicy = .latch ∨ (s.slot i).retryUsed = true →
        s.WashEnded t i f (s.slot i) .aborted .supplyShort ∧ s.FilterAborted t f)

/-- At the end of a resettle the slot asks again for the step's whole set, with its step and repeat as they
were; where it is granted at once, STEP_RUN is owed or has entered the covering port's queue (R69, R72, R74,
R110). -/
def Obligations.ResettleAsksAgain : Prop :=
  ∀ (s : State) (i : SlotId) (set : SupplySet), s.SupplyAgrees → s.inReset = false →
    (s.slot i).resettle.isSome = true → (s.slot i).step.kind.needs = some set →
    ∃ t, exec (.resettleTimerExpiry i) s = .next t ∧ s.AskedFor t i set ∧
      (t.slot i).resettle = none ∧ (t.slot i).stepIndex = (s.slot i).stepIndex ∧
      (t.slot i).repeatsLeft = (s.slot i).repeatsLeft ∧
      (t.slot i).delivered = (s.slot i).delivered ∧
      (t.slot i).reservation = (s.slot i).reservation

/-- A grant gives the first grantable request its whole set at once: the request leaves, the holders and the
two outputs follow, and the slot runs its step with its ramp at the start and its STEP_RUN owed or entered in the
covering port's queue (R69, R73, R74, R93, R94, R95, R98, R99, R128); the other slot is not touched. GRANT as a command of its own is the model's choice (log 16): the grant it
makes is the one that the pass inside another event makes, and a state that every step keeps in agreement has no
grantable request waiting. -/
def Obligations.GrantIsWhole : Prop :=
  ∀ (s : State) (i : SlotId) (r : Request) (earlier later : List Request), s.inReset = false →
    s.arbiter.requests = earlier ++ r :: later → r.slot = i →
    (∀ q ∈ earlier, s.arbiter.grantable q.set = false) → s.arbiter.grantable r.set = true →
    let x := s.slot i
    let water := x.step.kind.isWater
    ∃ t, exec (.grant i) s = .next t ∧
      t.arbiter.requests = s.arbiter.requests.filter (fun q => q.slot != i) ∧
      t.arbiter.airHolder = (if r.set.hasAir then some i else s.arbiter.airHolder) ∧
      t.arbiter.blowerRun = (r.set.hasAir || s.arbiter.blowerRun) ∧
      t.arbiter.waterHolder = (if r.set.hasWater then some i else s.arbiter.waterHolder) ∧
      t.monitor.waterView = (if r.set.hasWater then some i else s.monitor.waterView) ∧
      (r.set.hasWater = true → water = true →
        t.arbiter.waterDemand = x.demandNow * s.plant.rampStart / 16) ∧
      (r.set.hasWater = false → t.arbiter.waterDemand = s.arbiter.waterDemand) ∧
      (t.slot i).state = .run ∧ (t.slot i).supplyWait = none ∧
      (t.slot i).stepTimer = some x.step.duration ∧ (t.slot i).stepElapsed = 0 ∧
      (t.slot i).stepIndex = x.stepIndex ∧ (t.slot i).repeatsLeft = x.repeatsLeft ∧
      s.SlotNoticed t i .stepRun ∧
      (water = true → (t.slot i).rampK = s.plant.rampStart ∧
        (t.slot i).rampTimer =
          if s.plant.rampStart < 16 then some s.plant.rampInterval else none) ∧
      ∀ j, j ≠ i → (t.slot j).state = (s.slot j).state ∧ (t.slot j).filter = (s.slot j).filter ∧
        (t.slot j).stepTimer = (s.slot j).stepTimer ∧ (t.slot j).supplyWait = (s.slot j).supplyWait

/-! ### The supply monitor -/

/-- A sample that completes no window: a fault reading puts a channel in signal fault once, discards its
window and hands the fault on; a good one ends a fault, is scaled, and enters the window (R51, R92, R106, R120,
R121, R122, R125). -/
def Obligations.SampleIsTaken : Prop :=
  ∀ (s : State) (c : Channel) (reading : BitVec 12), s.inReset = false →
    let r := s.monitor.channel c
    let g := s.plant.channelCfg c
    let v := reading.toNat * g.span / 4095 + g.zero
    (goodReading reading = false → r.fault = true →
      ∃ t, exec (.channelSample c reading) s = .next t ∧
        NoticesEntered (s.setChannel c { r with lastRaw := some reading }) t) ∧
    (goodReading reading = false → r.fault = false →
      ∃ t, exec (.channelSample c reading) s = .next t ∧
        t.monitor.channel c =
          { r with
            lastRaw := some reading
            fault := true
            faultEntries := r.faultEntries + 1
            windowCount := 0
            windowSum := 0 } ∧
        t.monitor.signalFault = true ∧ t.admission.view c = ⟨true, false⟩ ∧
        (c = .tank → t.arbiter.tankFault = true) ∧
        (c = .flow → t.arbiter.flowFault = true ∧
          ∀ i, s.arbiter.waterHolder = some i →
            (t.slot i).flowUnsupervised = true ∧ (t.slot i).shortfall = none)) ∧
    (goodReading reading = true → r.windowCount + 1 < 2 ^ g.exponent →
      ∃ t, exec (.channelSample c reading) s = .next t ∧
        t.monitor.channel c =
          { r with
            lastRaw := some reading
            fault := false
            lastScaled := some (min 9999 v)
            lastClamped := decide (10000 ≤ v)
            windowCount := r.windowCount + 1
            windowSum := r.windowSum + min 9999 v } ∧
        (r.fault = true →
          t.monitor.signalFault = (t.monitor.tank.fault || t.monitor.flow.fault ||
            t.monitor.basin.fault) ∧
          (t.admission.view c).fault = false ∧
          (c = .tank → t.arbiter.tankFault = false) ∧
          (c = .flow → t.arbiter.flowFault = false)))

/-- Every good FLOW sample, also one that completes a window or ends a signal fault, advances the totalizer by
its clamped volume once, and no other command but a reset moves it (R129). The volume is credited once, to the
slot that holds the water grant when the sample is credited, or to unattributed. Where the sample ends a signal
fault, whose exit can let a waiting slot have the grant, the credit stands before or after that grant (R87, R121,
R128; log 34). WINDOW_COMPLETION as a command that carries such a sample is the model's choice (log 16). -/
def Obligations.FlowIsTotalledOnce : Prop :=
  ∀ (s : State) (c : Instr), s.inReset = false → s.monitor.totalRemainder < 10 →
    (∀ reading : BitVec 12, goodReading reading = true →
      c = .channelSample .flow reading ∨
        c = .windowCompletion .flow reading ∧
          2 ^ s.plant.flowCfg.exponent ≤ s.monitor.flow.windowCount + 1 →
      let v := min 9999 (reading.toNat * s.plant.flowCfg.span / 4095 + s.plant.flowCfg.zero)
      let m := s.monitor
      ∃ t, exec c s = .next t ∧
        10 * t.monitor.totalLitres.toNat + t.monitor.totalRemainder +
            42949672960 * (if m.totalLitres.toNat + (m.totalRemainder + v) / 10 < 4294967296
              then 0 else 1) =
          10 * m.totalLitres.toNat + m.totalRemainder + v ∧
        t.monitor.totalRemainder < 10 ∧
        t.monitor.rollover = m.rollover +
          (if m.totalLitres.toNat + (m.totalRemainder + v) / 10 < 4294967296 then 0 else 1) ∧
        t.monitor.sampleCount = m.sampleCount + 1 ∧
        (m.flow.fault = false →
          (m.waterView = none → t.monitor.unattributed = m.unattributed + BitVec.ofNat 32 v) ∧
          ∀ i, m.waterView = some i → t.monitor.unattributed = m.unattributed ∧
            (s.SupplyAgrees →
              (t.slot i).delivered = min 4294967295 ((s.slot i).delivered + v))) ∧
        (m.flow.fault = false → s.SupplyAgrees → s.Credited t v m.waterView) ∧
        (m.flow.fault = true → s.SupplyAgrees →
          (∀ i, m.waterView = some i → t.monitor.waterView = some i ∧ s.Credited t v (some i)) ∧
          (m.waterView = none →
            s.Credited t v none ∨ ∃ i, t.monitor.waterView = some i ∧ s.Credited t v (some i)))) ∧
    (c.isReset = false → (∀ reading, goodReading reading = true →
        c ≠ .channelSample .flow reading ∧ c ≠ .windowCompletion .flow reading) →
      ∃ t, exec c s = .next t ∧ t.monitor.totalLitres = s.monitor.totalLitres ∧
        t.monitor.totalRemainder = s.monitor.totalRemainder ∧
        t.monitor.rollover = s.monitor.rollover ∧ t.monitor.sampleCount = s.monitor.sampleCount ∧
        t.monitor.unattributed = s.monitor.unattributed)

/-- The good sample that completes a window: the average and the extreme are taken, a new window begins, the
conditions follow the average, and it is handed on. Where the sample ends a signal fault, which with exponent 0
it can, the exit is handed on too: at FLOW before the comparison, at TANK and BASIN on either side of the window
(log 35) (R105, R106, R120, R121, R122, R123, R124, R125, R126). That WINDOW_COMPLETION
is a command of its own, with the effect of that sample, is the model's choice (log 16). -/
def Obligations.WindowIsCompleted : Prop :=
  ∀ (s : State) (c : Channel) (reading : BitVec 12), s.inReset = false →
    goodReading reading = true →
    2 ^ (s.plant.channelCfg c).exponent ≤ (s.monitor.channel c).windowCount + 1 →
    let r := s.monitor.channel c
    let g := s.plant.channelCfg c
    let v := min 9999 (reading.toNat * g.span / 4095 + g.zero)
    let average := (r.windowSum + v) / 2 ^ g.exponent
    exec (.channelSample c reading) s = exec (.windowCompletion c reading) s ∧
    ∃ t, exec (.windowCompletion c reading) s = .next t ∧
      (t.monitor.channel c).fault = false ∧
      (r.fault = true → t.monitor.signalFault = (t.monitor.tank.fault || t.monitor.flow.fault ||
          t.monitor.basin.fault) ∧ (t.admission.view c).fault = false ∧
        (c = .tank → t.arbiter.tankFault = false) ∧ (c = .flow → t.arbiter.flowFault = false)) ∧
      (t.monitor.channel c).average = some average ∧ (t.monitor.channel c).windowCount = 0 ∧
      (t.monitor.channel c).windowSum = 0 ∧ (t.monitor.channel c).lastScaled = some v ∧
      (t.monitor.channel c).extreme =
        some (match r.extreme with
          | none => average
          | some e => if c = .tank then min e average else max e average) ∧
      (t.admission.view c).fresh = true ∧
      (c = .tank →
        t.admission.tankLevel = some average ∧
        t.monitor.tankLow = decide (average ≤ s.plant.tankLowLow) ∧
        (s.monitor.tankLow ≠ t.monitor.tankLow → t.arbiter.tankLow = t.monitor.tankLow) ∧
        (average < s.plant.refillOn → t.monitor.refill = true) ∧
        (s.plant.refillOn ≤ average → s.plant.refillOff ≤ average → t.monitor.refill = false) ∧
        (s.plant.refillOn ≤ average → average < s.plant.refillOff →
          t.monitor.refill = s.monitor.refill) ∧
        (s.monitor.basin.average.isSome = true → t.monitor.primed = true)) ∧
      (c = .basin →
        t.admission.basinLevel = some average ∧
        t.monitor.basinFull = decide (s.plant.basinMaximum ≤ average) ∧
        (s.monitor.basinFull ≠ t.monitor.basinFull → t.arbiter.basinFull = t.monitor.basinFull) ∧
        (s.monitor.tank.average.isSome = true → t.monitor.primed = true)) ∧
      (c = .flow → s.SupplyAgrees → s.arbiter.flowFault = r.fault →
        ∀ i, s.monitor.waterView = some i →
          (average < s.arbiter.waterDemand * s.plant.lowFlow / 100 →
            (t.slot i).shortfall =
              some ((s.slot i).shortfall.getD s.plant.flowGrace)) ∧
          (s.arbiter.waterDemand * s.plant.lowFlow / 100 ≤ average → (t.slot i).shortfall = none))

/-- TANK_LOW becoming true aborts the wash that holds the water grant with cause TANK_LOW, its WASH_END owed or
sent, and TANK_LOW is latched: at a tank window, also one that the sample ending a TANK signal fault completes
(log 35), and at a plant page commit completion, after which the present setting of the new page says where the
filter stands (R9, R26, R86, R88, R101, R112, R124, R130, R147). -/
def Obligations.TankLowAbortsTheHolder : Prop :=
  ∀ (s : State) (i : SlotId) (f : FilterNo), s.SupplyAgrees → s.inReset = false →
    s.monitor.tankLow = false → s.arbiter.waterHolder = some i → (s.slot i).filter = some f →
    (∀ reading : BitVec 12, goodReading reading = true →
      2 ^ s.plant.tankCfg.exponent ≤ s.monitor.tank.windowCount + 1 →
      (s.monitor.tank.windowSum +
          min 9999 (reading.toNat * s.plant.tankCfg.span / 4095 + s.plant.tankCfg.zero)) /
        2 ^ s.plant.tankCfg.exponent ≤ s.plant.tankLowLow →
      ∃ t, exec (.windowCompletion .tank reading) s = .next t ∧
        s.WashEnded t i f (s.slot i) .aborted .tankLow ∧ s.FilterAborted t f ∧
        t.arbiter.tankLow = true ∧ t.status.latched.getLsbD Flag.tankLow.bit = true ∧
        t.status.latched.getLsbD Flag.washAborted.bit = true) ∧
    ∀ (q : PlantPage) (p : Port) (level : Nat), s.store.commit = some (.plant q, p) →
      s.monitor.tank.fault = false → s.monitor.tank.average = some level → level ≤ q.tankLowLow →
      ∃ t, exec .commitCompletion s = .next t ∧
        s.WashEnded t i f (s.slot i) .aborted .tankLow ∧
        (if (q.filters[f]).present then
          (t.filter f).state = .standby ∧ (t.filter f).washFailed = true ∧
            (t.filter f).standing = .below
         else (t.filter f).state = .absent ∧ (t.filter f).standing = .out) ∧
        t.arbiter.tankLow = true ∧ t.status.latched.getLsbD Flag.tankLow.bit = true ∧
        t.status.latched.getLsbD Flag.washAborted.bit = true

/-! ### The supervisor's requests -/

/-- SET_CLASS puts a class in force and SET_PAUSE pauses or resumes; each is answered OK without effect where it
names what is in force, and RANGE for a value outside its range (R20, R49, R162). PEAK_RESET makes the three
extremes absent, and CLOCK_SET gives the plant clock a value and nothing else but forced waiting, which is
evaluated under the new clock and handed on where it changed (R62, R127, R161). -/
def Obligations.SupervisorSettingsAreTaken : Prop :=
  (∀ (s : State) (p : Port) (fr : Frame),
     let n := byteAt fr.payload 0
     (s.Passes p .setClass fr →
       (2 < n → s.Refuses p .setClass fr .range) ∧
       ∀ c : RawClass, c.code = n →
         ∃ t, s.Accepts p .setClass fr t ∧ t.filters.rawClass = c ∧
           (∀ f, (t.filter f).need = (s.filter f).need) ∧
           (c = s.filters.rawClass → s.RepliesFrom s p .setClass fr [[0x80]])) ∧
     (s.Passes p .setPause fr →
       (1 < n → s.Refuses p .setPause fr .range) ∧
       ∀ paused : Bool, n = (if paused then 0 else 1) →
         ∃ t, s.Accepts p .setPause fr t ∧ t.admission.paused = paused ∧
           (paused = s.admission.paused → s.RepliesFrom s p .setPause fr [[0x80]]) ∧
           (paused = true → t.slotA.filter = s.slotA.filter ∧ t.slotB.filter = s.slotB.filter))) ∧
  (∀ (s : State) (p : Port) (fr : Frame),
     (s.Passes p .peakReset fr →
       s.RepliesFrom
         { s with monitor :=
             { s.monitor with
               tank := { s.monitor.tank with extreme := none }
               flow := { s.monitor.flow with extreme := none }
               basin := { s.monitor.basin with extreme := none } } }
         p .peakReset fr [[0x80]]) ∧
     (s.Passes p .clockSet fr →
       ∃ (waiting : Bool) (flags : Status),
         s.RepliesFrom
           { s with
             clock := BitVec.ofNat 32 (word32At fr.payload 0)
             admission := { s.admission with forcedWaiting := waiting }
             status := flags }
           p .clockSet fr [[0x80]] ∧
         (waiting = true ↔ ∃ e ∈ s.queue.entries, e.cls = .forced ∧
           s.plant.stallLimit + e.joinMinute.toNat < word32At fr.payload 0) ∧
         (waiting = s.admission.forcedWaiting → flags = s.status) ∧
         (waiting ≠ s.admission.forcedWaiting →
           (∀ x : Flag, flags.live.getLsbD x.bit =
             if x = .forcedWaiting then waiting else s.status.live.getLsbD x.bit) ∧
           (∀ x : Flag, flags.latched.getLsbD x.bit =
             (s.status.latched.getLsbD x.bit || (decide (x = .forcedWaiting) && waiting))) ∧
           flags.alert0 = alertLine s.plant.alert0Mask s.plant.alert0Mode flags ∧
           flags.alert1 = alertLine s.plant.alert1Mask s.plant.alert1Mode flags)))

/-- CLEAR_STATUS clears the latched copies it names but those whose live copy is true, leaves the live copies
and every other flag, and the alert lines follow; a gallery port is refused with ROLE (R148). -/
def Obligations.StatusIsCleared : Prop :=
  ∀ (s : State) (p : Port) (fr : Frame),
    (s.Hears p .clearStatus fr → fr.payload.length = 2 → (s.port p).role = some .gallery →
      s.Refuses p .clearStatus fr .role) ∧
    (s.Passes p .clearStatus fr →
      ∃ u, s.RepliesFrom { s with status := u } p .clearStatus fr [[0x80]] ∧
        u.live = s.status.live ∧
        (∀ x : Flag, u.latched.getLsbD x.bit =
          if (BitVec.ofNat 10 (word16At fr.payload 0)).getLsbD x.bit then
            s.status.live.getLsbD x.bit
          else s.status.latched.getLsbD x.bit) ∧
        u.alert0 = alertLine s.plant.alert0Mask s.plant.alert0Mode u ∧
        u.alert1 = alertLine s.plant.alert1Mask s.plant.alert1Mode u)

/-! ### The page store -/

/-- EDIT_OPEN takes the latch and loads the page, stored content or factory defaults; EDIT_WRITE writes all
its items or none, each in the range of its field against the page as the earlier ones left it; EDIT_CLOSE gives
the latch up and empties the staging page; each refuses by the first case that applies (R134, R135, R136, R137).
A yes/no field as 0 or 1 and the index 0 of a field with one value are the model's choice (log 13), and so are
the bits of the lock mask (log 32). -/
def Obligations.EditsAreTaken : Prop :=
  ∀ (s : State) (p : Port) (fr : Frame),
    (s.Passes p .editOpen fr →
      (8 < byteAt fr.payload 0 → s.Refuses p .editOpen fr .range) ∧
      (∀ g : PageId, g.number = byteAt fr.payload 0 →
        (s.store.commit.isSome = true → s.Refuses p .editOpen fr .busy) ∧
        (s.store.commit = none →
          (∀ q, q ≠ p → s.store.latch = some q → s.Refuses p .editOpen fr .latch) ∧
          (s.store.latch = none ∨ s.store.latch = some p →
            (∀ n : Fin 8, g = .programme n →
              let steps := if (s.store.programmes[n]).valid then (s.store.programmes[n]).steps
                else factoryProgramme
              s.RepliesFrom
                { s with store :=
                    { s.store with
                      latch := some p
                      staging := some (.programme n steps.length
                        (steps ++ List.replicate (12 - steps.length) ⟨.drain, 10, 0, 1, 0, 0⟩)) } }
                p .editOpen fr [[0x80]]) ∧
            (g = .plant →
              s.RepliesFrom
                { s with store :=
                    { s.store with
                      latch := some p
                      staging := some (.plant (if s.store.plant.valid then s.store.plant.content
                        else PlantPage.factory)) } }
                p .editOpen fr [[0x80]]))))) ∧
    (s.Passes p .editWrite fr →
      (s.store.latch ≠ some p → s.Refuses p .editWrite fr .latch) ∧
      (∀ x, s.store.latch = some p → s.store.staging = some x →
        (x.writeAll (editItems fr.payload) = none → s.Refuses p .editWrite fr .range) ∧
        (∀ y, x.writeAll (editItems fr.payload) = some y →
          y.page = x.page ∧ (x.InRange → y.InRange) ∧
          s.RepliesFrom { s with store := { s.store with staging := some y } } p .editWrite fr
            [[0x80]])) ∧
      (∀ (x : Staged) (items : List EditItem), s.store.latch = some p → s.store.staging = some x →
        x.InRange → (∀ it ∈ items, it.ident < 256 ∧ it.index < 256 ∧ it.value < 65536) →
        fr.payload = items.flatMap (fun it => u8 it.ident ++ u8 it.index ++ u16 it.value) →
        ((∀ y, ¬ Staged.WritesAll items x y) → s.Refuses p .editWrite fr .range) ∧
        (∀ y, Staged.WritesAll items x y →
          s.RepliesFrom { s with store := { s.store with staging := some y } } p .editWrite fr
            [[0x80]]))) ∧
    (s.Passes p .editClose fr →
      (s.store.latch ≠ some p → s.Refuses p .editClose fr .latch) ∧
      (s.store.latch = some p →
        s.RepliesFrom { s with store := { s.store with latch := none, staging := none } } p
          .editClose fr [[0x80]]))

/-- COMMIT is refused while a commit is in progress, without the latch, for a locked page and for an
inconsistent one, and else starts the commit: the latch is given up, the page's marker set, and the queue told
that the page is committing (R138, R139, R140). Which bit of the lock mask locks a page is the model's choice (log
32). -/
def Obligations.CommitIsStarted : Prop :=
  ∀ (s : State) (p : Port) (fr : Frame), s.Passes p .commit fr →
    (s.store.commit.isSome = true → s.Refuses p .commit fr .busy) ∧
    (s.store.commit = none →
      (s.store.latch ≠ some p → s.Refuses p .commit fr .latch) ∧
      (∀ q : PlantPage, s.store.latch = some p → s.store.staging = some (.plant q) →
        (¬ (q.thresholdElevated ≤ q.thresholdNormal ∧ q.thresholdFlood ≤ q.thresholdElevated ∧
            q.tankLowLow < q.reserveLevel ∧ q.refillOn < q.refillOff) →
          s.Refuses p .commit fr .consistency) ∧
        (q.thresholdElevated ≤ q.thresholdNormal → q.thresholdFlood ≤ q.thresholdElevated →
          q.tankLowLow < q.reserveLevel → q.refillOn < q.refillOff →
          ∃ t, s.Accepts p .commit fr t ∧ t.store.commit = some (.plant q, p) ∧
            t.store.latch = none ∧ t.store.staging = none ∧ t.store.plant.marker = true ∧
            t.store.plant.content = s.store.plant.content ∧
            t.store.programmes = s.store.programmes ∧ t.queue.plantCommitting = true ∧
            t.queue.candidate = none)) ∧
      (∀ (g : Fin 8) (count : Nat) (steps : List StepRec), s.store.latch = some p →
        s.store.staging = some (.programme g count steps) →
        let taken := steps.take count
        (s.plant.lockMask.getLsbD g.val = true → s.Refuses p .commit fr .locked) ∧
        (s.plant.lockMask.getLsbD g.val = false →
          (¬ ProgrammeSound taken → 1 ≤ count → (Staged.programme g count steps).InRange →
            s.Refuses p .commit fr .consistency) ∧
          (ProgrammeSound taken →
            ∃ t, s.Accepts p .commit fr t ∧ t.store.commit = some (.programme g taken, p) ∧
              t.store.latch = none ∧ t.store.staging = none ∧
              (t.store.programmes[g]).marker = true ∧
              (t.store.programmes[g]).steps = (s.store.programmes[g]).steps ∧
              (∀ n, n ≠ g → t.store.programmes[n] = s.store.programmes[n]) ∧
              t.store.plant = s.store.plant ∧ t.queue.pageStatus[g] = .committing))))

/-- At the end of a commit the page holds the committed content with its check value and is VALID, so that a
revalidation finds it VALID; COMMIT_DONE is owed to the port, with no free place in its queue, or has entered
that queue; where the port is UNATTACHED none is owed for this commit and nothing enters (R132, R141). That it is
owed wherever the port has a role at the completion, also a role it took after the COMMIT, is the model's choice
(log 14). -/
def Obligations.CommitIsCompleted : Prop :=
  ∀ (s : State) (target : CommitTarget) (p : Port), s.inReset = false →
    s.store.commit = some (target, p) →
    ∃ t, exec .commitCompletion s = .next t ∧ t.store.commit = none ∧
      (∀ (g : Fin 8) (steps : List StepRec), target = .programme g steps →
        t.store.programmes[g] = ⟨steps, programmeCheck steps, false, true⟩ ∧
        (t.store.programmes[g]).revalidate.valid = true ∧
        (∀ n, n ≠ g → t.store.programmes[n] = s.store.programmes[n]) ∧
        t.store.plant = s.store.plant ∧ t.queue.pageStatus[g] = .usable) ∧
      (∀ q : PlantPage, target = .plant q →
        t.store.plant = ⟨q, plantCheck q, false, true⟩ ∧ t.store.plant.revalidate.valid = true ∧
        t.store.programmes = s.store.programmes ∧ t.plant = q) ∧
      t.store.pageInvalid = t.store.anyInvalid ∧
      ((s.port p).role.isSome = true →
        t.store.owedDone = some (p, target.page) ∧ 8 ≤ (t.port p).outbound.length ∨
        t.store.owedDone = none ∧ s.Sent t p ⟨0x63, 0, u8 target.page.number ++ u8 0⟩) ∧
      ((s.port p).role = none →
        (t.store.owedDone = s.store.owedDone ∨ t.store.owedDone = none) ∧
        (t.port p).outbound = (s.port p).outbound)

/-- At the end of a plant page commit the new page is in force: the filters' presence, settings and stale flags,
the floor, the monitor's windows, conditions and REFILL, the arbiter's water bar with the changed conditions, and
the alert lines (R10, R11, R16, R39, R92, R101, R130, R142, R149). The admission counter rises by one for each
wash admitted in the same event, two at most; where none is, it and the spacing timer stay, and else the timer
starts with the new spacing (R50, R57, R60). A slot that keeps its wash keeps the copies of its context (R58). -/
def Obligations.PlantPageTakesForce : Prop :=
  ∀ (s : State) (q : PlantPage) (p : Port), s.inReset = false → s.SupplyAgrees →
    s.store.commit = some (.plant q, p) →
    ∃ t, exec .commitCompletion s = .next t ∧ t.plant = q ∧ t.queue.plantCommitting = false ∧
      t.queue.floor = q.floor ∧
      (∀ f : FilterNo,
        let c := q.filters[f]
        let r := t.filter f
        r.area = c.area ∧ r.programme = c.programme ∧ r.headlossLimit = c.headlossLimit ∧
        r.turbidityLimit = c.turbidityLimit ∧ r.runLimit = c.runLimit ∧
        ((s.filter f).state = .absent → c.present = true →
          r.state = .standby ∧ (0 < t.dueThreshold → r.standing = .below) ∧
          r.headloss = none ∧ r.turbidity = none ∧ r.headlossClamped = false ∧
          r.turbidityClamped = false ∧ r.reportAge = 0 ∧ r.stale = decide (q.staleLimit ≤ 0) ∧
          r.runMinutes = 0 ∧ r.headlossFraction = 0 ∧ r.turbidityFraction = 0 ∧
          r.runFraction = 0 ∧ r.urgency = 0 ∧ r.washFailed = false ∧ r.historyUnknown = true ∧
          r.deferralMark = none ∧ r.washCount = (s.filter f).washCount ∧
          r.abortCount = (s.filter f).abortCount ∧ r.lastOutcome = (s.filter f).lastOutcome ∧
          r.lastCause = (s.filter f).lastCause ∧ r.lastSequence = (s.filter f).lastSequence) ∧
        ((s.filter f).state = .standby ∨ (s.filter f).state = .service → c.present = false →
          r.state = .absent ∧ r.standing = .out ∧ r.need = FilterRec.need
            { s.filter f with
              area := c.area, programme := c.programme, headlossLimit := c.headlossLimit
              turbidityLimit := c.turbidityLimit, runLimit := c.runLimit }) ∧
        ((s.filter f).state = .standby ∨ (s.filter f).state = .service → c.present = true →
          r.state = (s.filter f).state ∨
          r.state = .wash ∧ ∃ i : SlotId, (t.slot i).filter = some f ∧
            t.admission.admissionCounter ≠ s.admission.admissionCounter) ∧
        ((s.filter f).state ≠ .absent → c.present = true →
          r.runMinutes = (s.filter f).runMinutes ∧ r.headloss = (s.filter f).headloss ∧
          r.turbidity = (s.filter f).turbidity ∧ r.reportAge = (s.filter f).reportAge ∧
          r.FractionsCurrent ∧ r.stale = decide (q.staleLimit ≤ r.reportAge))) ∧
      (∀ c : Channel,
        (t.monitor.channel c).average = (s.monitor.channel c).average ∧
        (s.plant.channelCfg c = q.channelCfg c →
          (t.monitor.channel c).windowCount = (s.monitor.channel c).windowCount) ∧
        (s.plant.channelCfg c ≠ q.channelCfg c →
          (t.monitor.channel c).windowCount = 0 ∧ (t.monitor.channel c).windowSum = 0)) ∧
      (s.monitor.tank.fault = false →
        t.monitor.tankLow = s.monitor.tank.average.any fun v => decide (v ≤ q.tankLowLow)) ∧
      (s.monitor.tank.fault = false → t.monitor.refill =
        match s.monitor.tank.average with
        | none => false
        | some v =>
          if v < q.refillOn then true else if q.refillOff ≤ v then false else s.monitor.refill) ∧
      (s.monitor.tank.fault = true →
        t.monitor.tankLow = s.monitor.tankLow ∧ t.monitor.refill = s.monitor.refill) ∧
      (s.monitor.basin.fault = false →
        t.monitor.basinFull = s.monitor.basin.average.any fun v => decide (q.basinMaximum ≤ v)) ∧
      (s.monitor.basin.fault = true → t.monitor.basinFull = s.monitor.basinFull) ∧
      t.status.alert0 = alertLine q.alert0Mask q.alert0Mode t.status ∧
      t.status.alert1 = alertLine q.alert1Mask q.alert1Mode t.status ∧
      t.arbiter.tankLow =
        (if t.monitor.tankLow = s.monitor.tankLow then s.arbiter.tankLow else t.monitor.tankLow) ∧
      t.arbiter.basinFull =
        (if t.monitor.basinFull = s.monitor.basinFull then s.arbiter.basinFull
         else t.monitor.basinFull) ∧
      (∃ n : Nat, n ≤ 2 ∧
        t.admission.admissionCounter = s.admission.admissionCounter + BitVec.ofNat 32 n ∧
        (n = 0 → t.admission.spacing = s.admission.spacing) ∧
        (0 < n → t.admission.spacing = if q.startSpacing = 0 then none else some q.startSpacing) ∧
        ∀ k : Nat, 1 ≤ k → k ≤ n → ∃ (i : SlotId) (f : FilterNo),
          (t.slot i).ticket = s.admission.admissionCounter + BitVec.ofNat 32 k ∧
          (t.slot i).filter = some f ∧ (t.filter f).state = .wash ∧ (s.filter f).state ≠ .wash ∧
          (t.slot i).startMinute = s.clock) ∧
      (∀ i : SlotId, (t.slot i).filter = (s.slot i).filter →
        (s.slot i).state ≠ .idle →
        (t.slot i).programme = (s.slot i).programme ∧ (t.slot i).areaCopy = (s.slot i).areaCopy ∧
        (t.slot i).pumpCopy = (s.slot i).pumpCopy ∧ (t.slot i).demands = (s.slot i).demands ∧
        (t.slot i).reservation = (s.slot i).reservation)

/-! ### What every step keeps -/

/-- Every step keeps the supply in agreement: one holder at most for each grant, the grants exactly those that
a RUN step needs, the outputs and the monitor's view with their holders, WATER_DEMAND the holder's step demand at
its ramp position, a request exactly in WAIT_SUPPLY, no grantable request waiting, the timers each in their state,
and the active count (R3, R6, R28, R48, R66, R72, R90, R91, R94, R96, R98, R99, R128). With pages that passed their
checks it keeps WATER_DEMAND within the pump capacity copied at the holder's admission (R52, R99, R100). -/
def Obligations.SupplyStaysInAgreement : Prop :=
  ∀ s t : State, s.SupplyAgrees → step s = .next t →
    t.SupplyAgrees ∧ (s.store.Sound → s.DemandsBounded → t.DemandsBounded)

/-- Every step keeps the queue in its order, with at most one entry a filter; and, where the slots and the
filters in WASH agree (which `Obligations.SupplyStaysInAgreement` keeps), each entry of a filter in STANDBY or
SERVICE (R21, R28, R29). The unwrapped join numbers in `WashQueue.Ordered` are the model's choice (log 15). -/
def Obligations.QueueStaysOrdered : Prop :=
  ∀ s t : State, step s = .next t →
    (s.queue.Ordered → t.queue.Ordered) ∧
    (s.WashesAgree → s.queue.Ordered → s.QueuedFilters → t.QueuedFilters)

/-- Every step keeps every fraction and urgency current, every standing the one its record asks for, the
queue's views with them, and the entries with the views (R18, R19, R21, R22, R30, R31, R32). -/
def Obligations.StandingsStayCurrent : Prop :=
  ∀ s t : State, s.store.Sound → s.SupplyAgrees → s.queue.Ordered → s.StandingsCurrent →
    s.queue.FollowsViews → step s = .next t → t.StandingsCurrent ∧ t.queue.FollowsViews

/-- Every step keeps both service counts, the candidate the first eligible entry and known to the Admission
Unit, and the stall and waiting conditions what the rotation makes them (R3, R40, R45, R61, R62). That a
candidate report is taken inside the command that makes it, so that none is outstanding between two steps, is the
model's choice (log 5). -/
def Obligations.RotationStaysCurrent : Prop :=
  ∀ s t : State, step s = .next t →
    (s.ServiceCounted → t.ServiceCounted) ∧
    (s.CandidateCurrent → s.ConditionsCurrent → t.CandidateCurrent ∧ t.ConditionsCurrent)

/-- Every step keeps the journal's records at most 32 and consecutive, every queue of every port within its
bound with payloads that fit a frame, the attachments apart, the covered set what they cover, and the latch
with a port in SUPERVISOR role (R39, R137, R140, R145, R151, R152, R155, R157). -/
def Obligations.LinkAndJournalStayInBounds : Prop :=
  (∀ s t : State, step s = .next t →
     (s.journal.Consecutive → t.journal.Consecutive) ∧ (s.PortsFit → t.PortsFit)) ∧
  (∀ s t : State, step s = .next t →
     (s.PortsApart → t.PortsApart) ∧ (s.PortsApart → s.LatchSupervised → t.LatchSupervised))

/-- Every step keeps the page status at the queue with the store, every content that is VALID or could be found
so sound, and every programme copy of an active slot sound with its position inside it (R39, R64, R66, R136,
R139, R140, R141, R143). -/
def Obligations.PagesStaySound : Prop :=
  ∀ s t : State, step s = .next t →
    (s.PageStatusCurrent → t.PageStatusCurrent) ∧ (s.store.Sound → t.store.Sound) ∧
    (s.PageStatusCurrent → s.store.Sound → s.SupplyAgrees → (∀ i, (s.slot i).CopySound) →
      ∀ i, (t.slot i).CopySound)

/-- Every step keeps the alert lines with their masks, modes and flags, every flag with its live copy true
latched, and the live copies with their owners' conditions (R147, R149). The six live copies of Table 9-1, where
R147 says five, are the model's choice (log 27). -/
def Obligations.AlertsFollowTheFlags : Prop :=
  ∀ s t : State, step s = .next t →
    (s.AlertsFollow → t.AlertsFollow) ∧ (s.LiveCopies → t.LiveCopies)

/-- The state right after reset meets every agreement that the steps keep (R2, R30, R39, R43, R44, R66, R90,
R119, R145, R147, R151). That it is the state of a part as delivered, after its start-up, is the model's choice
(log 7). -/
def Obligations.ResetMeetsTheAgreements : Prop :=
  State.reset.SupplyAgrees ∧ State.reset.queue.Ordered ∧ State.reset.StandingsCurrent ∧
    State.reset.queue.FollowsViews ∧ State.reset.ServiceCounted ∧ State.reset.CandidateCurrent ∧
    State.reset.ConditionsCurrent ∧ State.reset.journal.Consecutive ∧ State.reset.PortsFit ∧
    State.reset.PortsApart ∧ State.reset.LatchSupervised ∧ State.reset.PageStatusCurrent ∧
    State.reset.store.Sound ∧ (∀ i, (State.reset.slot i).CopySound) ∧ State.reset.AlertsFollow ∧
    State.reset.LiveCopies ∧ State.reset.DemandsBounded

/-- What no command but those named can change, whatever else follows from it: the whole-machine frame of the
54 commands (R49, R66, R101, R127, R129, R132, R145, R147, R153, R161, R162, R163). -/
def Obligations.CommandsLeaveTheRestAlone : Prop :=
  ∀ (c : Instr) (s : State), ∃ t, exec c s = .next t ∧ t.pending = s.pending ∧
    (c.isReset = false →
      t.inReset = s.inReset ∧ t.lineRate = s.lineRate ∧
      ((∀ p, c ≠ .clockSet p) → c ≠ .minuteEvent → t.clock = s.clock) ∧
      (c ≠ .minuteEvent → t.seconds = s.seconds) ∧
      ((∀ p, c ≠ .setClass p) → t.filters.rawClass = s.filters.rawClass) ∧
      ((∀ p, c ≠ .setPause p) → t.admission.paused = s.admission.paused) ∧
      (c.canEdit = false → t.store.latch = s.store.latch ∧ t.store.staging = s.store.staging) ∧
      (c ≠ .commitCompletion →
        ((∀ p, c ≠ .commit p) → t.store.programmes = s.store.programmes ∧
          t.store.plant = s.store.plant ∧ t.store.commit = s.store.commit) ∧
        t.plant = s.plant ∧ t.store.pageInvalid = s.store.pageInvalid ∧
        t.queue.floor = s.queue.floor ∧
        ∀ f : FilterNo, (t.filter f).area = (s.filter f).area ∧
          (t.filter f).programme = (s.filter f).programme ∧
          (t.filter f).headlossLimit = (s.filter f).headlossLimit ∧
          (t.filter f).turbidityLimit = (s.filter f).turbidityLimit ∧
          (t.filter f).runLimit = (s.filter f).runLimit) ∧
      (c.canEndWash = false → t.journal = s.journal ∧
        ∀ f : FilterNo, (t.filter f).washCount = (s.filter f).washCount ∧
          (t.filter f).abortCount = (s.filter f).abortCount ∧
          (t.filter f).lastOutcome = (s.filter f).lastOutcome ∧
          (t.filter f).lastCause = (s.filter f).lastCause ∧
          (t.filter f).lastSequence = (s.filter f).lastSequence ∧
          ((∀ p, c ≠ .report p) → (t.filter f).headloss = (s.filter f).headloss ∧
            (t.filter f).turbidity = (s.filter f).turbidity)) ∧
      (c.isSample = false → c ≠ .commitCompletion → (∀ p, c ≠ .peakReset p) →
        ∀ ch : Channel, t.monitor.channel ch = s.monitor.channel ch) ∧
      (c.isSample = false → c ≠ .commitCompletion →
        t.monitor.tankLow = s.monitor.tankLow ∧ t.monitor.basinFull = s.monitor.basinFull ∧
        t.monitor.signalFault = s.monitor.signalFault ∧ t.monitor.refill = s.monitor.refill ∧
        t.monitor.primed = s.monitor.primed ∧ t.arbiter.tankLow = s.arbiter.tankLow ∧
        t.arbiter.basinFull = s.arbiter.basinFull ∧ t.arbiter.tankFault = s.arbiter.tankFault ∧
        t.arbiter.flowFault = s.arbiter.flowFault ∧
        t.admission.tankLevel = s.admission.tankLevel ∧
        t.admission.basinLevel = s.admission.basinLevel) ∧
      (∀ p : Port, c.portOf ≠ some p →
        (t.port p).role = (s.port p).role ∧ (t.port p).bounds = (s.port p).bounds ∧
        (t.port p).silenceLimit = (s.port p).silenceLimit ∧
        (t.port p).silenceTimer = (s.port p).silenceTimer ∧
        (t.port p).receiver = (s.port p).receiver ∧ (t.port p).inbound = (s.port p).inbound ∧
        (s.port p).outbound <+: (t.port p).outbound ∧
        (t.port p).errorCount = (s.port p).errorCount ∧
        (t.port p).dropCount = (s.port p).dropCount) ∧
      ((∀ p, c ≠ .clearStatus p) → ∀ x : Flag, s.status.latched.getLsbD x.bit = true →
        t.status.latched.getLsbD x.bit = true))
end

