-- ==== Sys2Proof/Laws/State.lean ====
section
/-! SUPPORT. The small lemmas of the state: for each update of a part, what it gives back and which parts
it leaves alone. -/

namespace Sys2Proof.Machine

/-! ### What an update gives back -/

@[simp] theorem State.port_setPort_self (s : State) (p : Port) (r : PortRec) :
    (s.setPort p r).port p = r := by cases p <;> rfl

theorem State.port_setPort_other (s : State) (p q : Port) (r : PortRec) (h : q ≠ p) :
    (s.setPort p r).port q = s.port q := by cases p <;> cases q <;> first | rfl | exact absurd rfl h

@[simp] theorem State.slot_setSlot_self (s : State) (i : SlotId) (x : Slot) :
    (s.setSlot i x).slot i = x := by cases i <;> rfl

theorem State.slot_setSlot_other (s : State) (i j : SlotId) (x : Slot) (h : j ≠ i) :
    (s.setSlot i x).slot j = s.slot j := by cases i <;> cases j <;> first | rfl | exact absurd rfl h

@[simp] theorem State.filter_setFilter_self (s : State) (f : FilterNo) (r : FilterRec) :
    (s.setFilter f r).filter f = r := by simp [State.filter, State.setFilter]

theorem State.filter_setFilter_other (s : State) (f g : FilterNo) (r : FilterRec) (h : g ≠ f) :
    (s.setFilter f r).filter g = s.filter g := by
  have h' : f.val ≠ g.val := fun e => h (Fin.ext e.symm)
  simp [State.filter, State.setFilter, Vector.getElem_set_ne, h']

@[simp] theorem Monitor.channel_setChannel_self (m : Monitor) (c : Channel) (r : ChannelRec) :
    (m.setChannel c r).channel c = r := by cases c <;> rfl

theorem Monitor.channel_setChannel_other (m : Monitor) (c d : Channel) (r : ChannelRec) (h : d ≠ c) :
    (m.setChannel c r).channel d = m.channel d := by
  cases c <;> cases d <;> first | rfl | exact absurd rfl h

@[simp] theorem State.setPort_port_self (s : State) (p : Port) : s.setPort p (s.port p) = s := by
  cases p <;> rfl

@[simp] theorem State.setSlot_slot_self (s : State) (i : SlotId) : s.setSlot i (s.slot i) = s := by
  cases i <;> rfl

@[simp] theorem State.setPort_setPort (s : State) (p : Port) (r q : PortRec) :
    (s.setPort p r).setPort p q = s.setPort p q := by cases p <;> rfl

@[simp] theorem State.setSlot_setSlot (s : State) (i : SlotId) (x y : Slot) :
    (s.setSlot i x).setSlot i y = s.setSlot i y := by cases i <;> rfl

@[simp] theorem State.setChannel_monitor (s : State) (c : Channel) (r : ChannelRec) :
    (s.setChannel c r).monitor = s.monitor.setChannel c r := rfl

@[simp] theorem State.chosen_free (s : State) : s.chosen.free = s.free + 1 := rfl

/-! ### What each update leaves alone -/

@[simp] theorem State.setPort_inReset (s : State) (p : Port) (r : PortRec) :
    (s.setPort p r).inReset = s.inReset := by cases p <;> rfl

@[simp] theorem State.setPort_lineRate (s : State) (p : Port) (r : PortRec) :
    (s.setPort p r).lineRate = s.lineRate := by cases p <;> rfl

@[simp] theorem State.setPort_filters (s : State) (p : Port) (r : PortRec) :
    (s.setPort p r).filters = s.filters := by cases p <;> rfl

@[simp] theorem State.setPort_queue (s : State) (p : Port) (r : PortRec) :
    (s.setPort p r).queue = s.queue := by cases p <;> rfl

@[simp] theorem State.setPort_admission (s : State) (p : Port) (r : PortRec) :
    (s.setPort p r).admission = s.admission := by cases p <;> rfl

@[simp] theorem State.setPort_slotA (s : State) (p : Port) (r : PortRec) :
    (s.setPort p r).slotA = s.slotA := by cases p <;> rfl

@[simp] theorem State.setPort_slotB (s : State) (p : Port) (r : PortRec) :
    (s.setPort p r).slotB = s.slotB := by cases p <;> rfl

@[simp] theorem State.setPort_arbiter (s : State) (p : Port) (r : PortRec) :
    (s.setPort p r).arbiter = s.arbiter := by cases p <;> rfl

@[simp] theorem State.setPort_monitor (s : State) (p : Port) (r : PortRec) :
    (s.setPort p r).monitor = s.monitor := by cases p <;> rfl

@[simp] theorem State.setPort_store (s : State) (p : Port) (r : PortRec) :
    (s.setPort p r).store = s.store := by cases p <;> rfl

@[simp] theorem State.setPort_journal (s : State) (p : Port) (r : PortRec) :
    (s.setPort p r).journal = s.journal := by cases p <;> rfl

@[simp] theorem State.setPort_status (s : State) (p : Port) (r : PortRec) :
    (s.setPort p r).status = s.status := by cases p <;> rfl

@[simp] theorem State.setPort_clock (s : State) (p : Port) (r : PortRec) :
    (s.setPort p r).clock = s.clock := by cases p <;> rfl

@[simp] theorem State.setPort_seconds (s : State) (p : Port) (r : PortRec) :
    (s.setPort p r).seconds = s.seconds := by cases p <;> rfl

@[simp] theorem State.setPort_free (s : State) (p : Port) (r : PortRec) :
    (s.setPort p r).free = s.free := by cases p <;> rfl

@[simp] theorem State.setPort_pending (s : State) (p : Port) (r : PortRec) :
    (s.setPort p r).pending = s.pending := by cases p <;> rfl

@[simp] theorem State.setSlot_inReset (s : State) (i : SlotId) (x : Slot) :
    (s.setSlot i x).inReset = s.inReset := by cases i <;> rfl

@[simp] theorem State.setSlot_lineRate (s : State) (i : SlotId) (x : Slot) :
    (s.setSlot i x).lineRate = s.lineRate := by cases i <;> rfl

@[simp] theorem State.setSlot_ports (s : State) (i : SlotId) (x : Slot) :
    (s.setSlot i x).ports = s.ports := by cases i <;> rfl

@[simp] theorem State.setSlot_filters (s : State) (i : SlotId) (x : Slot) :
    (s.setSlot i x).filters = s.filters := by cases i <;> rfl

@[simp] theorem State.setSlot_queue (s : State) (i : SlotId) (x : Slot) :
    (s.setSlot i x).queue = s.queue := by cases i <;> rfl

@[simp] theorem State.setSlot_admission (s : State) (i : SlotId) (x : Slot) :
    (s.setSlot i x).admission = s.admission := by cases i <;> rfl

@[simp] theorem State.setSlot_arbiter (s : State) (i : SlotId) (x : Slot) :
    (s.setSlot i x).arbiter = s.arbiter := by cases i <;> rfl

@[simp] theorem State.setSlot_monitor (s : State) (i : SlotId) (x : Slot) :
    (s.setSlot i x).monitor = s.monitor := by cases i <;> rfl

@[simp] theorem State.setSlot_store (s : State) (i : SlotId) (x : Slot) :
    (s.setSlot i x).store = s.store := by cases i <;> rfl

@[simp] theorem State.setSlot_journal (s : State) (i : SlotId) (x : Slot) :
    (s.setSlot i x).journal = s.journal := by cases i <;> rfl

@[simp] theorem State.setSlot_status (s : State) (i : SlotId) (x : Slot) :
    (s.setSlot i x).status = s.status := by cases i <;> rfl

@[simp] theorem State.setSlot_clock (s : State) (i : SlotId) (x : Slot) :
    (s.setSlot i x).clock = s.clock := by cases i <;> rfl

@[simp] theorem State.setSlot_seconds (s : State) (i : SlotId) (x : Slot) :
    (s.setSlot i x).seconds = s.seconds := by cases i <;> rfl

@[simp] theorem State.setSlot_free (s : State) (i : SlotId) (x : Slot) :
    (s.setSlot i x).free = s.free := by cases i <;> rfl

@[simp] theorem State.setSlot_pending (s : State) (i : SlotId) (x : Slot) :
    (s.setSlot i x).pending = s.pending := by cases i <;> rfl

@[simp] theorem State.setFilter_inReset (s : State) (f : FilterNo) (r : FilterRec) :
    (s.setFilter f r).inReset = s.inReset := rfl

@[simp] theorem State.setFilter_lineRate (s : State) (f : FilterNo) (r : FilterRec) :
    (s.setFilter f r).lineRate = s.lineRate := rfl

@[simp] theorem State.setFilter_ports (s : State) (f : FilterNo) (r : FilterRec) :
    (s.setFilter f r).ports = s.ports := rfl

@[simp] theorem State.setFilter_queue (s : State) (f : FilterNo) (r : FilterRec) :
    (s.setFilter f r).queue = s.queue := rfl

@[simp] theorem State.setFilter_admission (s : State) (f : FilterNo) (r : FilterRec) :
    (s.setFilter f r).admission = s.admission := rfl

@[simp] theorem State.setFilter_slotA (s : State) (f : FilterNo) (r : FilterRec) :
    (s.setFilter f r).slotA = s.slotA := rfl

@[simp] theorem State.setFilter_slotB (s : State) (f : FilterNo) (r : FilterRec) :
    (s.setFilter f r).slotB = s.slotB := rfl

@[simp] theorem State.setFilter_arbiter (s : State) (f : FilterNo) (r : FilterRec) :
    (s.setFilter f r).arbiter = s.arbiter := rfl

@[simp] theorem State.setFilter_monitor (s : State) (f : FilterNo) (r : FilterRec) :
    (s.setFilter f r).monitor = s.monitor := rfl

@[simp] theorem State.setFilter_store (s : State) (f : FilterNo) (r : FilterRec) :
    (s.setFilter f r).store = s.store := rfl

@[simp] theorem State.setFilter_journal (s : State) (f : FilterNo) (r : FilterRec) :
    (s.setFilter f r).journal = s.journal := rfl

@[simp] theorem State.setFilter_status (s : State) (f : FilterNo) (r : FilterRec) :
    (s.setFilter f r).status = s.status := rfl

@[simp] theorem State.setFilter_clock (s : State) (f : FilterNo) (r : FilterRec) :
    (s.setFilter f r).clock = s.clock := rfl

@[simp] theorem State.setFilter_seconds (s : State) (f : FilterNo) (r : FilterRec) :
    (s.setFilter f r).seconds = s.seconds := rfl

@[simp] theorem State.setFilter_free (s : State) (f : FilterNo) (r : FilterRec) :
    (s.setFilter f r).free = s.free := rfl

@[simp] theorem State.setFilter_pending (s : State) (f : FilterNo) (r : FilterRec) :
    (s.setFilter f r).pending = s.pending := rfl

@[simp] theorem State.setChannel_inReset (s : State) (c : Channel) (r : ChannelRec) :
    (s.setChannel c r).inReset = s.inReset := rfl

@[simp] theorem State.setChannel_lineRate (s : State) (c : Channel) (r : ChannelRec) :
    (s.setChannel c r).lineRate = s.lineRate := rfl

@[simp] theorem State.setChannel_ports (s : State) (c : Channel) (r : ChannelRec) :
    (s.setChannel c r).ports = s.ports := rfl

@[simp] theorem State.setChannel_filters (s : State) (c : Channel) (r : ChannelRec) :
    (s.setChannel c r).filters = s.filters := rfl

@[simp] theorem State.setChannel_queue (s : State) (c : Channel) (r : ChannelRec) :
    (s.setChannel c r).queue = s.queue := rfl

@[simp] theorem State.setChannel_admission (s : State) (c : Channel) (r : ChannelRec) :
    (s.setChannel c r).admission = s.admission := rfl

@[simp] theorem State.setChannel_slotA (s : State) (c : Channel) (r : ChannelRec) :
    (s.setChannel c r).slotA = s.slotA := rfl

@[simp] theorem State.setChannel_slotB (s : State) (c : Channel) (r : ChannelRec) :
    (s.setChannel c r).slotB = s.slotB := rfl

@[simp] theorem State.setChannel_arbiter (s : State) (c : Channel) (r : ChannelRec) :
    (s.setChannel c r).arbiter = s.arbiter := rfl

@[simp] theorem State.setChannel_store (s : State) (c : Channel) (r : ChannelRec) :
    (s.setChannel c r).store = s.store := rfl

@[simp] theorem State.setChannel_journal (s : State) (c : Channel) (r : ChannelRec) :
    (s.setChannel c r).journal = s.journal := rfl

@[simp] theorem State.setChannel_status (s : State) (c : Channel) (r : ChannelRec) :
    (s.setChannel c r).status = s.status := rfl

@[simp] theorem State.setChannel_clock (s : State) (c : Channel) (r : ChannelRec) :
    (s.setChannel c r).clock = s.clock := rfl

@[simp] theorem State.setChannel_seconds (s : State) (c : Channel) (r : ChannelRec) :
    (s.setChannel c r).seconds = s.seconds := rfl

@[simp] theorem State.setChannel_free (s : State) (c : Channel) (r : ChannelRec) :
    (s.setChannel c r).free = s.free := rfl

@[simp] theorem State.setChannel_pending (s : State) (c : Channel) (r : ChannelRec) :
    (s.setChannel c r).pending = s.pending := rfl

@[simp] theorem State.chosen_inReset (s : State) :
    (s.chosen).inReset = s.inReset := rfl

@[simp] theorem State.chosen_lineRate (s : State) :
    (s.chosen).lineRate = s.lineRate := rfl

@[simp] theorem State.chosen_ports (s : State) :
    (s.chosen).ports = s.ports := rfl

@[simp] theorem State.chosen_filters (s : State) :
    (s.chosen).filters = s.filters := rfl

@[simp] theorem State.chosen_queue (s : State) :
    (s.chosen).queue = s.queue := rfl

@[simp] theorem State.chosen_admission (s : State) :
    (s.chosen).admission = s.admission := rfl

@[simp] theorem State.chosen_slotA (s : State) :
    (s.chosen).slotA = s.slotA := rfl

@[simp] theorem State.chosen_slotB (s : State) :
    (s.chosen).slotB = s.slotB := rfl

@[simp] theorem State.chosen_arbiter (s : State) :
    (s.chosen).arbiter = s.arbiter := rfl

@[simp] theorem State.chosen_monitor (s : State) :
    (s.chosen).monitor = s.monitor := rfl

@[simp] theorem State.chosen_store (s : State) :
    (s.chosen).store = s.store := rfl

@[simp] theorem State.chosen_journal (s : State) :
    (s.chosen).journal = s.journal := rfl

@[simp] theorem State.chosen_status (s : State) :
    (s.chosen).status = s.status := rfl

@[simp] theorem State.chosen_clock (s : State) :
    (s.chosen).clock = s.clock := rfl

@[simp] theorem State.chosen_seconds (s : State) :
    (s.chosen).seconds = s.seconds := rfl

@[simp] theorem State.chosen_pending (s : State) :
    (s.chosen).pending = s.pending := rfl

@[simp] theorem State.latchFlag_inReset (s : State) (x : Flag) :
    (s.latchFlag x).inReset = s.inReset := rfl

@[simp] theorem State.latchFlag_lineRate (s : State) (x : Flag) :
    (s.latchFlag x).lineRate = s.lineRate := rfl

@[simp] theorem State.latchFlag_ports (s : State) (x : Flag) :
    (s.latchFlag x).ports = s.ports := rfl

@[simp] theorem State.latchFlag_filters (s : State) (x : Flag) :
    (s.latchFlag x).filters = s.filters := rfl

@[simp] theorem State.latchFlag_queue (s : State) (x : Flag) :
    (s.latchFlag x).queue = s.queue := rfl

@[simp] theorem State.latchFlag_admission (s : State) (x : Flag) :
    (s.latchFlag x).admission = s.admission := rfl

@[simp] theorem State.latchFlag_slotA (s : State) (x : Flag) :
    (s.latchFlag x).slotA = s.slotA := rfl

@[simp] theorem State.latchFlag_slotB (s : State) (x : Flag) :
    (s.latchFlag x).slotB = s.slotB := rfl

@[simp] theorem State.latchFlag_arbiter (s : State) (x : Flag) :
    (s.latchFlag x).arbiter = s.arbiter := rfl

@[simp] theorem State.latchFlag_monitor (s : State) (x : Flag) :
    (s.latchFlag x).monitor = s.monitor := rfl

@[simp] theorem State.latchFlag_store (s : State) (x : Flag) :
    (s.latchFlag x).store = s.store := rfl

@[simp] theorem State.latchFlag_journal (s : State) (x : Flag) :
    (s.latchFlag x).journal = s.journal := rfl

@[simp] theorem State.latchFlag_clock (s : State) (x : Flag) :
    (s.latchFlag x).clock = s.clock := rfl

@[simp] theorem State.latchFlag_seconds (s : State) (x : Flag) :
    (s.latchFlag x).seconds = s.seconds := rfl

@[simp] theorem State.latchFlag_free (s : State) (x : Flag) :
    (s.latchFlag x).free = s.free := rfl

@[simp] theorem State.latchFlag_pending (s : State) (x : Flag) :
    (s.latchFlag x).pending = s.pending := rfl

@[simp] theorem State.setLive_inReset (s : State) (x : Flag) (b : Bool) :
    (s.setLive x b).inReset = s.inReset := rfl

@[simp] theorem State.setLive_lineRate (s : State) (x : Flag) (b : Bool) :
    (s.setLive x b).lineRate = s.lineRate := rfl

@[simp] theorem State.setLive_ports (s : State) (x : Flag) (b : Bool) :
    (s.setLive x b).ports = s.ports := rfl

@[simp] theorem State.setLive_filters (s : State) (x : Flag) (b : Bool) :
    (s.setLive x b).filters = s.filters := rfl

@[simp] theorem State.setLive_queue (s : State) (x : Flag) (b : Bool) :
    (s.setLive x b).queue = s.queue := rfl

@[simp] theorem State.setLive_admission (s : State) (x : Flag) (b : Bool) :
    (s.setLive x b).admission = s.admission := rfl

@[simp] theorem State.setLive_slotA (s : State) (x : Flag) (b : Bool) :
    (s.setLive x b).slotA = s.slotA := rfl

@[simp] theorem State.setLive_slotB (s : State) (x : Flag) (b : Bool) :
    (s.setLive x b).slotB = s.slotB := rfl

@[simp] theorem State.setLive_arbiter (s : State) (x : Flag) (b : Bool) :
    (s.setLive x b).arbiter = s.arbiter := rfl

@[simp] theorem State.setLive_monitor (s : State) (x : Flag) (b : Bool) :
    (s.setLive x b).monitor = s.monitor := rfl

@[simp] theorem State.setLive_store (s : State) (x : Flag) (b : Bool) :
    (s.setLive x b).store = s.store := rfl

@[simp] theorem State.setLive_journal (s : State) (x : Flag) (b : Bool) :
    (s.setLive x b).journal = s.journal := rfl

@[simp] theorem State.setLive_clock (s : State) (x : Flag) (b : Bool) :
    (s.setLive x b).clock = s.clock := rfl

@[simp] theorem State.setLive_seconds (s : State) (x : Flag) (b : Bool) :
    (s.setLive x b).seconds = s.seconds := rfl

@[simp] theorem State.setLive_free (s : State) (x : Flag) (b : Bool) :
    (s.setLive x b).free = s.free := rfl

@[simp] theorem State.setLive_pending (s : State) (x : Flag) (b : Bool) :
    (s.setLive x b).pending = s.pending := rfl

@[simp] theorem State.handLive_inReset (s : State) (x : Flag) (a b : Bool) :
    (s.handLive x a b).inReset = s.inReset := by unfold State.handLive; split <;> rfl

@[simp] theorem State.handLive_lineRate (s : State) (x : Flag) (a b : Bool) :
    (s.handLive x a b).lineRate = s.lineRate := by unfold State.handLive; split <;> rfl

@[simp] theorem State.handLive_ports (s : State) (x : Flag) (a b : Bool) :
    (s.handLive x a b).ports = s.ports := by unfold State.handLive; split <;> rfl

@[simp] theorem State.handLive_filters (s : State) (x : Flag) (a b : Bool) :
    (s.handLive x a b).filters = s.filters := by unfold State.handLive; split <;> rfl

@[simp] theorem State.handLive_queue (s : State) (x : Flag) (a b : Bool) :
    (s.handLive x a b).queue = s.queue := by unfold State.handLive; split <;> rfl

@[simp] theorem State.handLive_admission (s : State) (x : Flag) (a b : Bool) :
    (s.handLive x a b).admission = s.admission := by unfold State.handLive; split <;> rfl

@[simp] theorem State.handLive_slotA (s : State) (x : Flag) (a b : Bool) :
    (s.handLive x a b).slotA = s.slotA := by unfold State.handLive; split <;> rfl

@[simp] theorem State.handLive_slotB (s : State) (x : Flag) (a b : Bool) :
    (s.handLive x a b).slotB = s.slotB := by unfold State.handLive; split <;> rfl

@[simp] theorem State.handLive_arbiter (s : State) (x : Flag) (a b : Bool) :
    (s.handLive x a b).arbiter = s.arbiter := by unfold State.handLive; split <;> rfl

@[simp] theorem State.handLive_monitor (s : State) (x : Flag) (a b : Bool) :
    (s.handLive x a b).monitor = s.monitor := by unfold State.handLive; split <;> rfl

@[simp] theorem State.handLive_store (s : State) (x : Flag) (a b : Bool) :
    (s.handLive x a b).store = s.store := by unfold State.handLive; split <;> rfl

@[simp] theorem State.handLive_journal (s : State) (x : Flag) (a b : Bool) :
    (s.handLive x a b).journal = s.journal := by unfold State.handLive; split <;> rfl

@[simp] theorem State.handLive_clock (s : State) (x : Flag) (a b : Bool) :
    (s.handLive x a b).clock = s.clock := by unfold State.handLive; split <;> rfl

@[simp] theorem State.handLive_seconds (s : State) (x : Flag) (a b : Bool) :
    (s.handLive x a b).seconds = s.seconds := by unfold State.handLive; split <;> rfl

@[simp] theorem State.handLive_free (s : State) (x : Flag) (a b : Bool) :
    (s.handLive x a b).free = s.free := by unfold State.handLive; split <;> rfl

@[simp] theorem State.handLive_pending (s : State) (x : Flag) (a b : Bool) :
    (s.handLive x a b).pending = s.pending := by unfold State.handLive; split <;> rfl

@[simp] theorem State.sendFrame_inReset (s : State) (p : Port) (fr : Frame) :
    (s.sendFrame p fr).inReset = s.inReset := by simp [State.sendFrame]

@[simp] theorem State.sendFrame_lineRate (s : State) (p : Port) (fr : Frame) :
    (s.sendFrame p fr).lineRate = s.lineRate := by simp [State.sendFrame]

@[simp] theorem State.sendFrame_filters (s : State) (p : Port) (fr : Frame) :
    (s.sendFrame p fr).filters = s.filters := by simp [State.sendFrame]

@[simp] theorem State.sendFrame_queue (s : State) (p : Port) (fr : Frame) :
    (s.sendFrame p fr).queue = s.queue := by simp [State.sendFrame]

@[simp] theorem State.sendFrame_admission (s : State) (p : Port) (fr : Frame) :
    (s.sendFrame p fr).admission = s.admission := by simp [State.sendFrame]

@[simp] theorem State.sendFrame_slotA (s : State) (p : Port) (fr : Frame) :
    (s.sendFrame p fr).slotA = s.slotA := by simp [State.sendFrame]

@[simp] theorem State.sendFrame_slotB (s : State) (p : Port) (fr : Frame) :
    (s.sendFrame p fr).slotB = s.slotB := by simp [State.sendFrame]

@[simp] theorem State.sendFrame_arbiter (s : State) (p : Port) (fr : Frame) :
    (s.sendFrame p fr).arbiter = s.arbiter := by simp [State.sendFrame]

@[simp] theorem State.sendFrame_monitor (s : State) (p : Port) (fr : Frame) :
    (s.sendFrame p fr).monitor = s.monitor := by simp [State.sendFrame]

@[simp] theorem State.sendFrame_store (s : State) (p : Port) (fr : Frame) :
    (s.sendFrame p fr).store = s.store := by simp [State.sendFrame]

@[simp] theorem State.sendFrame_journal (s : State) (p : Port) (fr : Frame) :
    (s.sendFrame p fr).journal = s.journal := by simp [State.sendFrame]

@[simp] theorem State.sendFrame_status (s : State) (p : Port) (fr : Frame) :
    (s.sendFrame p fr).status = s.status := by simp [State.sendFrame]

@[simp] theorem State.sendFrame_clock (s : State) (p : Port) (fr : Frame) :
    (s.sendFrame p fr).clock = s.clock := by simp [State.sendFrame]

@[simp] theorem State.sendFrame_seconds (s : State) (p : Port) (fr : Frame) :
    (s.sendFrame p fr).seconds = s.seconds := by simp [State.sendFrame]

@[simp] theorem State.sendFrame_free (s : State) (p : Port) (fr : Frame) :
    (s.sendFrame p fr).free = s.free := by simp [State.sendFrame]

@[simp] theorem State.sendFrame_pending (s : State) (p : Port) (fr : Frame) :
    (s.sendFrame p fr).pending = s.pending := by simp [State.sendFrame]

@[simp] theorem State.popInbound_inReset (s : State) (p : Port) :
    (s.popInbound p).inReset = s.inReset := by simp [State.popInbound]

@[simp] theorem State.popInbound_lineRate (s : State) (p : Port) :
    (s.popInbound p).lineRate = s.lineRate := by simp [State.popInbound]

@[simp] theorem State.popInbound_filters (s : State) (p : Port) :
    (s.popInbound p).filters = s.filters := by simp [State.popInbound]

@[simp] theorem State.popInbound_queue (s : State) (p : Port) :
    (s.popInbound p).queue = s.queue := by simp [State.popInbound]

@[simp] theorem State.popInbound_admission (s : State) (p : Port) :
    (s.popInbound p).admission = s.admission := by simp [State.popInbound]

@[simp] theorem State.popInbound_slotA (s : State) (p : Port) :
    (s.popInbound p).slotA = s.slotA := by simp [State.popInbound]

@[simp] theorem State.popInbound_slotB (s : State) (p : Port) :
    (s.popInbound p).slotB = s.slotB := by simp [State.popInbound]

@[simp] theorem State.popInbound_arbiter (s : State) (p : Port) :
    (s.popInbound p).arbiter = s.arbiter := by simp [State.popInbound]

@[simp] theorem State.popInbound_monitor (s : State) (p : Port) :
    (s.popInbound p).monitor = s.monitor := by simp [State.popInbound]

@[simp] theorem State.popInbound_store (s : State) (p : Port) :
    (s.popInbound p).store = s.store := by simp [State.popInbound]

@[simp] theorem State.popInbound_journal (s : State) (p : Port) :
    (s.popInbound p).journal = s.journal := by simp [State.popInbound]

@[simp] theorem State.popInbound_status (s : State) (p : Port) :
    (s.popInbound p).status = s.status := by simp [State.popInbound]

@[simp] theorem State.popInbound_clock (s : State) (p : Port) :
    (s.popInbound p).clock = s.clock := by simp [State.popInbound]

@[simp] theorem State.popInbound_seconds (s : State) (p : Port) :
    (s.popInbound p).seconds = s.seconds := by simp [State.popInbound]

@[simp] theorem State.popInbound_free (s : State) (p : Port) :
    (s.popInbound p).free = s.free := by simp [State.popInbound]

@[simp] theorem State.popInbound_pending (s : State) (p : Port) :
    (s.popInbound p).pending = s.pending := by simp [State.popInbound]

@[simp] theorem State.standingNotice_inReset (s : State) (f : FilterNo) :
    (s.standingNotice f).inReset = s.inReset := rfl

@[simp] theorem State.standingNotice_lineRate (s : State) (f : FilterNo) :
    (s.standingNotice f).lineRate = s.lineRate := rfl

@[simp] theorem State.standingNotice_ports (s : State) (f : FilterNo) :
    (s.standingNotice f).ports = s.ports := rfl

@[simp] theorem State.standingNotice_filters (s : State) (f : FilterNo) :
    (s.standingNotice f).filters = s.filters := rfl

@[simp] theorem State.standingNotice_admission (s : State) (f : FilterNo) :
    (s.standingNotice f).admission = s.admission := rfl

@[simp] theorem State.standingNotice_slotA (s : State) (f : FilterNo) :
    (s.standingNotice f).slotA = s.slotA := rfl

@[simp] theorem State.standingNotice_slotB (s : State) (f : FilterNo) :
    (s.standingNotice f).slotB = s.slotB := rfl

@[simp] theorem State.standingNotice_arbiter (s : State) (f : FilterNo) :
    (s.standingNotice f).arbiter = s.arbiter := rfl

@[simp] theorem State.standingNotice_monitor (s : State) (f : FilterNo) :
    (s.standingNotice f).monitor = s.monitor := rfl

@[simp] theorem State.standingNotice_store (s : State) (f : FilterNo) :
    (s.standingNotice f).store = s.store := rfl

@[simp] theorem State.standingNotice_journal (s : State) (f : FilterNo) :
    (s.standingNotice f).journal = s.journal := rfl

@[simp] theorem State.standingNotice_status (s : State) (f : FilterNo) :
    (s.standingNotice f).status = s.status := rfl

@[simp] theorem State.standingNotice_clock (s : State) (f : FilterNo) :
    (s.standingNotice f).clock = s.clock := rfl

@[simp] theorem State.standingNotice_seconds (s : State) (f : FilterNo) :
    (s.standingNotice f).seconds = s.seconds := rfl

@[simp] theorem State.standingNotice_free (s : State) (f : FilterNo) :
    (s.standingNotice f).free = s.free := rfl

@[simp] theorem State.standingNotice_pending (s : State) (f : FilterNo) :
    (s.standingNotice f).pending = s.pending := rfl

@[simp] theorem State.setServiceCount_inReset (s : State) (n : Nat) :
    (s.setServiceCount n).inReset = s.inReset := rfl

@[simp] theorem State.setServiceCount_lineRate (s : State) (n : Nat) :
    (s.setServiceCount n).lineRate = s.lineRate := rfl

@[simp] theorem State.setServiceCount_ports (s : State) (n : Nat) :
    (s.setServiceCount n).ports = s.ports := rfl

@[simp] theorem State.setServiceCount_admission (s : State) (n : Nat) :
    (s.setServiceCount n).admission = s.admission := rfl

@[simp] theorem State.setServiceCount_slotA (s : State) (n : Nat) :
    (s.setServiceCount n).slotA = s.slotA := rfl

@[simp] theorem State.setServiceCount_slotB (s : State) (n : Nat) :
    (s.setServiceCount n).slotB = s.slotB := rfl

@[simp] theorem State.setServiceCount_arbiter (s : State) (n : Nat) :
    (s.setServiceCount n).arbiter = s.arbiter := rfl

@[simp] theorem State.setServiceCount_monitor (s : State) (n : Nat) :
    (s.setServiceCount n).monitor = s.monitor := rfl

@[simp] theorem State.setServiceCount_store (s : State) (n : Nat) :
    (s.setServiceCount n).store = s.store := rfl

@[simp] theorem State.setServiceCount_journal (s : State) (n : Nat) :
    (s.setServiceCount n).journal = s.journal := rfl

@[simp] theorem State.setServiceCount_status (s : State) (n : Nat) :
    (s.setServiceCount n).status = s.status := rfl

@[simp] theorem State.setServiceCount_clock (s : State) (n : Nat) :
    (s.setServiceCount n).clock = s.clock := rfl

@[simp] theorem State.setServiceCount_seconds (s : State) (n : Nat) :
    (s.setServiceCount n).seconds = s.seconds := rfl

@[simp] theorem State.setServiceCount_free (s : State) (n : Nat) :
    (s.setServiceCount n).free = s.free := rfl

@[simp] theorem State.setServiceCount_pending (s : State) (n : Nat) :
    (s.setServiceCount n).pending = s.pending := rfl

@[simp] theorem State.withdraw_inReset (s : State) (i : SlotId) :
    (s.withdraw i).inReset = s.inReset := rfl

@[simp] theorem State.withdraw_lineRate (s : State) (i : SlotId) :
    (s.withdraw i).lineRate = s.lineRate := rfl

@[simp] theorem State.withdraw_ports (s : State) (i : SlotId) :
    (s.withdraw i).ports = s.ports := rfl

@[simp] theorem State.withdraw_filters (s : State) (i : SlotId) :
    (s.withdraw i).filters = s.filters := rfl

@[simp] theorem State.withdraw_queue (s : State) (i : SlotId) :
    (s.withdraw i).queue = s.queue := rfl

@[simp] theorem State.withdraw_admission (s : State) (i : SlotId) :
    (s.withdraw i).admission = s.admission := rfl

@[simp] theorem State.withdraw_slotA (s : State) (i : SlotId) :
    (s.withdraw i).slotA = s.slotA := rfl

@[simp] theorem State.withdraw_slotB (s : State) (i : SlotId) :
    (s.withdraw i).slotB = s.slotB := rfl

@[simp] theorem State.withdraw_monitor (s : State) (i : SlotId) :
    (s.withdraw i).monitor = s.monitor := rfl

@[simp] theorem State.withdraw_store (s : State) (i : SlotId) :
    (s.withdraw i).store = s.store := rfl

@[simp] theorem State.withdraw_journal (s : State) (i : SlotId) :
    (s.withdraw i).journal = s.journal := rfl

@[simp] theorem State.withdraw_status (s : State) (i : SlotId) :
    (s.withdraw i).status = s.status := rfl

@[simp] theorem State.withdraw_clock (s : State) (i : SlotId) :
    (s.withdraw i).clock = s.clock := rfl

@[simp] theorem State.withdraw_seconds (s : State) (i : SlotId) :
    (s.withdraw i).seconds = s.seconds := rfl

@[simp] theorem State.withdraw_free (s : State) (i : SlotId) :
    (s.withdraw i).free = s.free := rfl

@[simp] theorem State.withdraw_pending (s : State) (i : SlotId) :
    (s.withdraw i).pending = s.pending := rfl

@[simp] theorem State.redriveDemand_inReset (s : State) (i : SlotId) :
    (s.redriveDemand i).inReset = s.inReset := by unfold State.redriveDemand; split <;> rfl

@[simp] theorem State.redriveDemand_lineRate (s : State) (i : SlotId) :
    (s.redriveDemand i).lineRate = s.lineRate := by unfold State.redriveDemand; split <;> rfl

@[simp] theorem State.redriveDemand_ports (s : State) (i : SlotId) :
    (s.redriveDemand i).ports = s.ports := by unfold State.redriveDemand; split <;> rfl

@[simp] theorem State.redriveDemand_filters (s : State) (i : SlotId) :
    (s.redriveDemand i).filters = s.filters := by unfold State.redriveDemand; split <;> rfl

@[simp] theorem State.redriveDemand_queue (s : State) (i : SlotId) :
    (s.redriveDemand i).queue = s.queue := by unfold State.redriveDemand; split <;> rfl

@[simp] theorem State.redriveDemand_admission (s : State) (i : SlotId) :
    (s.redriveDemand i).admission = s.admission := by unfold State.redriveDemand; split <;> rfl

@[simp] theorem State.redriveDemand_slotA (s : State) (i : SlotId) :
    (s.redriveDemand i).slotA = s.slotA := by unfold State.redriveDemand; split <;> rfl

@[simp] theorem State.redriveDemand_slotB (s : State) (i : SlotId) :
    (s.redriveDemand i).slotB = s.slotB := by unfold State.redriveDemand; split <;> rfl

@[simp] theorem State.redriveDemand_monitor (s : State) (i : SlotId) :
    (s.redriveDemand i).monitor = s.monitor := by unfold State.redriveDemand; split <;> rfl

@[simp] theorem State.redriveDemand_store (s : State) (i : SlotId) :
    (s.redriveDemand i).store = s.store := by unfold State.redriveDemand; split <;> rfl

@[simp] theorem State.redriveDemand_journal (s : State) (i : SlotId) :
    (s.redriveDemand i).journal = s.journal := by unfold State.redriveDemand; split <;> rfl

@[simp] theorem State.redriveDemand_status (s : State) (i : SlotId) :
    (s.redriveDemand i).status = s.status := by unfold State.redriveDemand; split <;> rfl

@[simp] theorem State.redriveDemand_clock (s : State) (i : SlotId) :
    (s.redriveDemand i).clock = s.clock := by unfold State.redriveDemand; split <;> rfl

@[simp] theorem State.redriveDemand_seconds (s : State) (i : SlotId) :
    (s.redriveDemand i).seconds = s.seconds := by unfold State.redriveDemand; split <;> rfl

@[simp] theorem State.redriveDemand_free (s : State) (i : SlotId) :
    (s.redriveDemand i).free = s.free := by unfold State.redriveDemand; split <;> rfl

@[simp] theorem State.redriveDemand_pending (s : State) (i : SlotId) :
    (s.redriveDemand i).pending = s.pending := by unfold State.redriveDemand; split <;> rfl

@[simp] theorem State.evalAlerts_inReset (s : State) :
    (s.evalAlerts).inReset = s.inReset := rfl

@[simp] theorem State.evalAlerts_lineRate (s : State) :
    (s.evalAlerts).lineRate = s.lineRate := rfl

@[simp] theorem State.evalAlerts_ports (s : State) :
    (s.evalAlerts).ports = s.ports := rfl

@[simp] theorem State.evalAlerts_filters (s : State) :
    (s.evalAlerts).filters = s.filters := rfl

@[simp] theorem State.evalAlerts_queue (s : State) :
    (s.evalAlerts).queue = s.queue := rfl

@[simp] theorem State.evalAlerts_admission (s : State) :
    (s.evalAlerts).admission = s.admission := rfl

@[simp] theorem State.evalAlerts_slotA (s : State) :
    (s.evalAlerts).slotA = s.slotA := rfl

@[simp] theorem State.evalAlerts_slotB (s : State) :
    (s.evalAlerts).slotB = s.slotB := rfl

@[simp] theorem State.evalAlerts_arbiter (s : State) :
    (s.evalAlerts).arbiter = s.arbiter := rfl

@[simp] theorem State.evalAlerts_monitor (s : State) :
    (s.evalAlerts).monitor = s.monitor := rfl

@[simp] theorem State.evalAlerts_store (s : State) :
    (s.evalAlerts).store = s.store := rfl

@[simp] theorem State.evalAlerts_journal (s : State) :
    (s.evalAlerts).journal = s.journal := rfl

@[simp] theorem State.evalAlerts_clock (s : State) :
    (s.evalAlerts).clock = s.clock := rfl

@[simp] theorem State.evalAlerts_seconds (s : State) :
    (s.evalAlerts).seconds = s.seconds := rfl

@[simp] theorem State.evalAlerts_free (s : State) :
    (s.evalAlerts).free = s.free := rfl

@[simp] theorem State.evalAlerts_pending (s : State) :
    (s.evalAlerts).pending = s.pending := rfl

@[simp] theorem State.evalRefill_inReset (s : State) :
    (s.evalRefill).inReset = s.inReset := rfl

@[simp] theorem State.evalRefill_lineRate (s : State) :
    (s.evalRefill).lineRate = s.lineRate := rfl

@[simp] theorem State.evalRefill_ports (s : State) :
    (s.evalRefill).ports = s.ports := rfl

@[simp] theorem State.evalRefill_filters (s : State) :
    (s.evalRefill).filters = s.filters := rfl

@[simp] theorem State.evalRefill_queue (s : State) :
    (s.evalRefill).queue = s.queue := rfl

@[simp] theorem State.evalRefill_admission (s : State) :
    (s.evalRefill).admission = s.admission := rfl

@[simp] theorem State.evalRefill_slotA (s : State) :
    (s.evalRefill).slotA = s.slotA := rfl

@[simp] theorem State.evalRefill_slotB (s : State) :
    (s.evalRefill).slotB = s.slotB := rfl

@[simp] theorem State.evalRefill_arbiter (s : State) :
    (s.evalRefill).arbiter = s.arbiter := rfl

@[simp] theorem State.evalRefill_store (s : State) :
    (s.evalRefill).store = s.store := rfl

@[simp] theorem State.evalRefill_journal (s : State) :
    (s.evalRefill).journal = s.journal := rfl

@[simp] theorem State.evalRefill_status (s : State) :
    (s.evalRefill).status = s.status := rfl

@[simp] theorem State.evalRefill_clock (s : State) :
    (s.evalRefill).clock = s.clock := rfl

@[simp] theorem State.evalRefill_seconds (s : State) :
    (s.evalRefill).seconds = s.seconds := rfl

@[simp] theorem State.evalRefill_free (s : State) :
    (s.evalRefill).free = s.free := rfl

@[simp] theorem State.evalRefill_pending (s : State) :
    (s.evalRefill).pending = s.pending := rfl

/-! ### Parts read through an update -/

@[simp] theorem State.slot_setPort (s : State) (p : Port) (r : PortRec) (i : SlotId) :
    (s.setPort p r).slot i = s.slot i := by cases i <;> simp [State.slot]

@[simp] theorem State.filter_setPort (s : State) (p : Port) (r : PortRec) (f : FilterNo) :
    (s.setPort p r).filter f = s.filter f := by simp [State.filter]

@[simp] theorem State.port_setSlot (s : State) (i : SlotId) (x : Slot) (p : Port) :
    (s.setSlot i x).port p = s.port p := by cases p <;> simp [State.port]

@[simp] theorem State.filter_setSlot (s : State) (i : SlotId) (x : Slot) (f : FilterNo) :
    (s.setSlot i x).filter f = s.filter f := by simp [State.filter]

@[simp] theorem State.port_setFilter (s : State) (f : FilterNo) (r : FilterRec) (p : Port) :
    (s.setFilter f r).port p = s.port p := by cases p <;> rfl

@[simp] theorem State.slot_setFilter (s : State) (f : FilterNo) (r : FilterRec) (i : SlotId) :
    (s.setFilter f r).slot i = s.slot i := by cases i <;> rfl

@[simp] theorem State.plant_setPort (s : State) (p : Port) (r : PortRec) :
    (s.setPort p r).plant = s.plant := by simp [State.plant]

@[simp] theorem State.plant_setSlot (s : State) (i : SlotId) (x : Slot) :
    (s.setSlot i x).plant = s.plant := by simp [State.plant]

@[simp] theorem State.plant_setFilter (s : State) (f : FilterNo) (r : FilterRec) :
    (s.setFilter f r).plant = s.plant := rfl

/-- A command outside a reset runs its meaning. -/
@[simp] theorem State.whenRunning_of_running (f : State → State) (s : State) (h : s.inReset = false) :
    s.whenRunning f = .next (f s) := by simp [State.whenRunning, h]

/-- A command during a reset changes nothing (log 1). -/
@[simp] theorem State.whenRunning_of_reset (f : State → State) (s : State) (h : s.inReset = true) :
    s.whenRunning f = .next s := by simp [State.whenRunning, h]

/-- Two parts of one event are taken in one of the two orders, after a free choice (log 4). -/
theorem eitherOrder_cases (f g : State → State) (s : State) :
    eitherOrder f g s = g (f s.chosen) ∨ eitherOrder f g s = f (g s.chosen) := by
  simp only [eitherOrder]
  split
  · exact .inl rfl
  · split
    · exact .inl rfl
    · exact .inr rfl

end Sys2Proof.Machine
end

