-- ==== Sys2Proof/Laws/Arbiter.lean ====
section
/-! SUPPORT. What the operations of the Supply Arbiter can change: the arbiter, the two slots and the
monitor's view of the water holder, and nothing else. -/

namespace Sys2Proof.Machine

theorem State.setSlot_shape (i : SlotId) (x : Slot) (s : State) :
    ∃ y z, s.setSlot i x = { s with slotA := y, slotB := z } := by
  cases i
  · exact ⟨x, s.slotB, rfl⟩
  · exact ⟨s.slotA, x, rfl⟩

theorem State.grantRequest_shape (r : Request) (s : State) :
    ∃ y z a v, s.grantRequest r =
      { s with slotA := y, slotB := z, arbiter := a, monitor := { s.monitor with waterView := v } } := by
  obtain ⟨y, z, h⟩ := State.setSlot_shape r.slot ((s.slot r.slot).takeGrant s.plant) s
  exact ⟨y, z, _, _, by rw [State.grantRequest, h]⟩

/-- What holds before a grant pass and is kept by every grant of a grantable set holds after it (R94). -/
theorem State.grantPass_keeps (P : State → Prop) (s : State) (h : P s)
    (keep : ∀ t r, P t → t.arbiter.grantable r.set = true → P (t.grantRequest r)) : P s.grantPass := by
  unfold State.grantPass
  generalize s.arbiter.requests = rs
  induction rs generalizing s with
  | nil => exact h
  | cons r rs ih =>
    rw [List.foldl_cons]
    refine ih _ ?_
    split
    · next g => exact keep _ _ h g
    · exact h

theorem State.grantPass_shape (s : State) :
    ∃ y z a v, s.grantPass =
      { s with slotA := y, slotB := z, arbiter := a, monitor := { s.monitor with waterView := v } } := by
  refine State.grantPass_keeps (fun t => ∃ y z a v, t =
    { s with slotA := y, slotB := z, arbiter := a, monitor := { s.monitor with waterView := v } }) s
    ⟨_, _, _, _, rfl⟩ ?_
  rintro t r ⟨y, z, a, v, rfl⟩ -
  obtain ⟨y', z', a', v', h⟩ := State.grantRequest_shape r
    { s with slotA := y, slotB := z, arbiter := a, monitor := { s.monitor with waterView := v } }
  exact ⟨y', z', a', v', h⟩

theorem State.enterWaitSupply_shape (i : SlotId) (set : SupplySet) (s : State) :
    ∃ y z a v, s.enterWaitSupply i set =
      { s with slotA := y, slotB := z, arbiter := a, monitor := { s.monitor with waterView := v } } := by
  cases i <;> exact State.grantPass_shape _

theorem State.release_shape (i : SlotId) (s : State) :
    ∃ y z a v, s.release i =
      { s with slotA := y, slotB := z, arbiter := a, monitor := { s.monitor with waterView := v } } := by
  unfold State.release
  split
  · cases i <;> exact State.grantPass_shape _
  · exact ⟨_, _, _, _, rfl⟩

/-- A slot that holds no grant releases nothing (R97). -/
theorem State.release_of_holds_none (i : SlotId) (s : State) (ha : s.arbiter.holdsAir i = false)
    (hw : s.arbiter.holdsWater i = false) : s.release i = s := by
  simp [State.release, ha, hw]

theorem State.leaveRun_shape (i : SlotId) (s : State) :
    ∃ y z a v, s.leaveRun i =
      { s with slotA := y, slotB := z, arbiter := a, monitor := { s.monitor with waterView := v } } := by
  unfold State.leaveRun
  obtain ⟨y, z, a, v, h⟩ := State.release_shape i s
  obtain ⟨y', z', h'⟩ := State.setSlot_shape i ((s.release i).slot i).stopRunTimers (s.release i)
  exact ⟨y', z', a, v, by rw [h', h]⟩

theorem State.redriveDemand_shape (i : SlotId) (s : State) :
    ∃ a, s.redriveDemand i = { s with arbiter := a } := by
  unfold State.redriveDemand
  split
  · exact ⟨_, rfl⟩
  · exact ⟨_, rfl⟩

/-! ### The context of a slot -/

/-- A grant pass leaves the wash of a slot, its place in it and its counts as they were (R73, R95). -/
theorem State.grantPass_context (s : State) (i : SlotId) :
    (s.grantPass.slot i).filter = (s.slot i).filter ∧
      (s.grantPass.slot i).programme = (s.slot i).programme ∧
      (s.grantPass.slot i).ticket = (s.slot i).ticket ∧
      (s.grantPass.slot i).demands = (s.slot i).demands ∧
      (s.grantPass.slot i).reservation = (s.slot i).reservation ∧
      (s.grantPass.slot i).delivered = (s.slot i).delivered ∧
      (s.grantPass.slot i).stepIndex = (s.slot i).stepIndex ∧
      (s.grantPass.slot i).repeatsLeft = (s.slot i).repeatsLeft ∧
      (s.grantPass.slot i).retryUsed = (s.slot i).retryUsed ∧
      (s.grantPass.slot i).ripenLong = (s.slot i).ripenLong ∧
      (s.grantPass.slot i).valveTimer = (s.slot i).valveTimer ∧
      (s.grantPass.slot i).resettle = (s.slot i).resettle ∧
      (s.grantPass.slot i).haltTimer = (s.slot i).haltTimer := by
  refine State.grantPass_keeps (fun t =>
    (t.slot i).filter = (s.slot i).filter ∧ (t.slot i).programme = (s.slot i).programme ∧
      (t.slot i).ticket = (s.slot i).ticket ∧ (t.slot i).demands = (s.slot i).demands ∧
      (t.slot i).reservation = (s.slot i).reservation ∧ (t.slot i).delivered = (s.slot i).delivered ∧
      (t.slot i).stepIndex = (s.slot i).stepIndex ∧ (t.slot i).repeatsLeft = (s.slot i).repeatsLeft ∧
      (t.slot i).retryUsed = (s.slot i).retryUsed ∧ (t.slot i).ripenLong = (s.slot i).ripenLong ∧
      (t.slot i).valveTimer = (s.slot i).valveTimer ∧ (t.slot i).resettle = (s.slot i).resettle ∧
      (t.slot i).haltTimer = (s.slot i).haltTimer) s (by simp) ?_
  intro t r h _
  have e : (t.grantRequest r).slot i = (t.setSlot r.slot ((t.slot r.slot).takeGrant t.plant)).slot i := by
    cases i <;> rfl
  rw [e]
  by_cases k : i = r.slot
  · subst k
    rw [State.slot_setSlot_self]
    exact h
  · rw [State.slot_setSlot_other _ _ _ _ k]
    exact h

/-- A release leaves the wash of a slot, its place in it and its counts as they were (R97). -/
theorem State.release_context (s : State) (i j : SlotId) :
    ((s.release i).slot j).filter = (s.slot j).filter ∧
      ((s.release i).slot j).programme = (s.slot j).programme ∧
      ((s.release i).slot j).ticket = (s.slot j).ticket ∧
      ((s.release i).slot j).demands = (s.slot j).demands ∧
      ((s.release i).slot j).reservation = (s.slot j).reservation ∧
      ((s.release i).slot j).delivered = (s.slot j).delivered ∧
      ((s.release i).slot j).stepIndex = (s.slot j).stepIndex ∧
      ((s.release i).slot j).repeatsLeft = (s.slot j).repeatsLeft ∧
      ((s.release i).slot j).retryUsed = (s.slot j).retryUsed ∧
      ((s.release i).slot j).ripenLong = (s.slot j).ripenLong ∧
      ((s.release i).slot j).valveTimer = (s.slot j).valveTimer ∧
      ((s.release i).slot j).resettle = (s.slot j).resettle ∧
      ((s.release i).slot j).haltTimer = (s.slot j).haltTimer := by
  unfold State.release
  split
  · cases i <;> cases j <;> exact State.grantPass_context _ _
  · simp

/-! ### Grants and the two holders -/

/-- A set is grantable exactly when each grant it includes is free, and the water bar view is clear where it
includes water (R93). -/
theorem Arbiter.grantable_iff (a : Arbiter) (set : SupplySet) :
    a.grantable set = true ↔
      (set.hasAir = true → a.airHolder = none) ∧
      (set.hasWater = true → a.waterHolder = none ∧ a.barred = false) := by
  cases set <;> simp [Arbiter.grantable, SupplySet.hasAir, SupplySet.hasWater]

/-- After its release a slot holds nothing, and the grants of another are as they were (R97). -/
theorem Arbiter.take_holds (i : SlotId) (a : Arbiter) :
    (a.take i).holdsAir i = false ∧ (a.take i).holdsWater i = false ∧
      ∀ j, j ≠ i → (a.take i).holdsAir j = a.holdsAir j ∧ (a.take i).holdsWater j = a.holdsWater j := by
  have other : ∀ (o : Option SlotId) (j : SlotId), j ≠ i →
      ((if (o == some i) = true then none else o) == some j) = (o == some j) := by
    intro o j h
    by_cases e : o = some i
    · subst e
      simpa using fun h' => h h'.symm
    · simp [e]
  refine ⟨?_, ?_, fun j h => ⟨?_, ?_⟩⟩
  · by_cases e : a.airHolder = some i <;> simp [Arbiter.take, Arbiter.holdsAir, e]
  · by_cases e : a.waterHolder = some i <;> simp [Arbiter.take, Arbiter.holdsWater, e]
  · exact other a.airHolder j h
  · exact other a.waterHolder j h

/-- After a grant the slot holds exactly what its set adds to what it held (R95). -/
theorem Arbiter.give_holders (r : Request) (a : Arbiter) :
    (a.give r).airHolder = (if r.set.hasAir then some r.slot else a.airHolder) ∧
      (a.give r).waterHolder = (if r.set.hasWater then some r.slot else a.waterHolder) ∧
      (a.give r).requests = a.requests.filter fun q => q.slot != r.slot := ⟨rfl, rfl, rfl⟩

/-- The requests after an insertion are the new one and those before (R91). -/
theorem mem_insertRequest (r q : Request) (rs : List Request) :
    q ∈ insertRequest r rs ↔ q = r ∨ q ∈ rs := by
  induction rs with
  | nil => simp [insertRequest]
  | cons x xs ih =>
    unfold insertRequest
    split
    · simp
    · simp [ih, or_left_comm]

end Sys2Proof.Machine
end

