-- ==== Sys2Proof/Laws/Filters.lean ====
section
/-! SUPPORT. What the operations of the Filter Table can change: the records, the service counts and the
queue, and a slot where the filter is in WASH. -/

namespace Sys2Proof.Machine

/-! ### The record and the queue -/

theorem State.countTransition_shape (was now : FilterState) (s : State) :
    ∃ n m, s.countTransition was now =
      { s with filters := { s.filters with serviceCount := n },
               queue := { s.queue with serviceCount := m } } := by
  unfold State.countTransition State.setServiceCount
  repeat' split
  all_goals exact ⟨_, _, rfl⟩

@[simp] theorem State.countTransition_filter (was now : FilterState) (s : State) (f : FilterNo) :
    (s.countTransition was now).filter f = s.filter f := by
  obtain ⟨n, m, h⟩ := State.countTransition_shape was now s
  rw [h]; rfl

/-- A filed record has the standing that R21 derives, and the queue has taken a notice exactly where the
standing or the urgency is new (R21, R22). -/
theorem State.fileFilter_cases (f : FilterNo) (r : FilterRec) (s : State) :
    let new : FilterRec := { r with standing := r.deriveStanding s.dueThreshold }
    ((new.standing = (s.filter f).standing ∧ new.urgency = (s.filter f).urgency) ∧
        s.fileFilter f r = s.setFilter f new) ∨
      s.fileFilter f r =
        { s.setFilter f new with
          queue := s.queue.takeNotice s.clock f new.standing new.urgency } := by
  intro new
  by_cases h : new.standing = (s.filter f).standing ∧ new.urgency = (s.filter f).urgency
  · exact .inl ⟨h, by simp only [State.fileFilter]; exact if_pos h⟩
  · right
    have e : s.fileFilter f r = (s.setFilter f new).standingNotice f := by
      simp only [State.fileFilter]; exact if_neg h
    rw [e]
    simp [State.standingNotice]

theorem State.fileFilter_shape (f : FilterNo) (r : FilterRec) (s : State) :
    ∃ q, s.fileFilter f r =
      { s.setFilter f { r with standing := r.deriveStanding s.dueThreshold } with queue := q } := by
  obtain ⟨-, h⟩ | h := State.fileFilter_cases f r s
  · exact ⟨s.queue, h⟩
  · exact ⟨_, h⟩

@[simp] theorem State.fileFilter_self (f : FilterNo) (r : FilterRec) (s : State) :
    (s.fileFilter f r).filter f = { r with standing := r.deriveStanding s.dueThreshold } := by
  obtain ⟨q, h⟩ := State.fileFilter_shape f r s
  rw [h]
  exact State.filter_setFilter_self _ _ _

theorem State.fileFilter_other (f g : FilterNo) (r : FilterRec) (s : State) (h : g ≠ f) :
    (s.fileFilter f r).filter g = s.filter g := by
  obtain ⟨q, e⟩ := State.fileFilter_shape f r s
  rw [e]
  exact State.filter_setFilter_other _ _ _ _ h

/-! ### Signals to a slot -/

/-- A signal to the slot of a filter in WASH touches that slot alone (R14, R15). -/
theorem State.signalSlot_cases (f : FilterNo) (g : Slot → Slot) (s : State) :
    (s.holdingSlot f = none ∧ s.signalSlot f g = s) ∨
      ∃ i, s.holdingSlot f = some i ∧ s.signalSlot f g = s.setSlot i (g (s.slot i)) := by
  unfold State.signalSlot
  split
  · next h => exact .inl ⟨h, rfl⟩
  · next i h => exact .inr ⟨i, h, rfl⟩

theorem State.holdingSlot_some (f : FilterNo) (s : State) (i : SlotId) (h : s.holdingSlot f = some i) :
    (s.slot i).state ≠ .idle ∧ (s.slot i).filter = some f := by
  unfold State.holdingSlot at h
  split at h
  · next a =>
    cases h
    simpa [Slot.holds, State.slot] using a
  · split at h
    · next b =>
      cases h
      simpa [Slot.holds, State.slot] using b
    · cases h

theorem State.staleChanged_shape (f : FilterNo) (was now : Bool) (s : State) :
    ∃ x y, s.staleChanged f was now = { s with slotA := x, slotB := y } := by
  unfold State.staleChanged
  split
  · exact ⟨_, _, rfl⟩
  · obtain ⟨-, h⟩ | ⟨i, -, h⟩ := State.signalSlot_cases f (Slot.onStale now) s
    · exact ⟨s.slotA, s.slotB, h⟩
    · rw [h]
      cases i
      · exact ⟨_, s.slotB, rfl⟩
      · exact ⟨s.slotA, _, rfl⟩

/-! ### Requests, the minute, the class and wash ends -/

theorem State.modeChange_shape (f : FilterNo) (mode : FilterState) (minutes : Option Nat) (s : State) :
    ∃ t q, s.modeChange f mode minutes = { s with filters := t, queue := q } := by
  obtain ⟨n, m, h⟩ := State.countTransition_shape (s.filter f).state mode s
  simp only [State.modeChange]
  rw [h]
  obtain ⟨q, e⟩ := State.fileFilter_shape f _ { s with
    filters := { s.filters with serviceCount := n }, queue := { s.queue with serviceCount := m } }
  exact ⟨_, q, e⟩

theorem State.restand_shape (f : FilterNo) (s : State) :
    ∃ t q, s.restand f = { s with filters := t, queue := q } := by
  unfold State.restand
  split
  · obtain ⟨q, e⟩ := State.fileFilter_shape f (s.filter f) s
    exact ⟨_, q, e⟩
  · obtain ⟨q, e⟩ := State.fileFilter_shape f (s.filter f) s
    exact ⟨_, q, e⟩
  · exact ⟨_, _, rfl⟩

theorem State.filterMinute_shape (f : FilterNo) (s : State) :
    ∃ t q x y, s.filterMinute f = { s with filters := t, queue := q, slotA := x, slotB := y } := by
  unfold State.filterMinute
  extract_lets r aged
  split
  · exact ⟨_, _, _, _, rfl⟩
  · exact ⟨_, _, _, _, rfl⟩
  · obtain ⟨q, e⟩ := State.fileFilter_shape f
      { aged with runMinutes := min 65535 (r.runMinutes + 1) }.withRunFraction s
    exact ⟨_, q, s.slotA, s.slotB, e⟩
  · obtain ⟨x, y, e⟩ := State.staleChanged_shape f r.stale aged.stale (s.setFilter f aged)
    exact ⟨_, s.queue, x, y, e⟩

/-- What one filter's part keeps, the whole table's minute keeps (R17). -/
theorem State.filtersMinute_keeps (P : State → Prop) (s : State) (h : P s)
    (keep : ∀ t f, P t → P (t.filterMinute f)) : P s.filtersMinute := by
  unfold State.filtersMinute
  generalize allFilters = l
  induction l generalizing s with
  | nil => exact h
  | cons f l ih => exact ih _ (keep _ _ h)

theorem State.filtersMinute_shape (s : State) :
    ∃ t q x y, s.filtersMinute = { s with filters := t, queue := q, slotA := x, slotB := y } := by
  refine State.filtersMinute_keeps (fun u => ∃ t q x y, u =
    { s with filters := t, queue := q, slotA := x, slotB := y }) s ⟨_, _, _, _, rfl⟩ ?_
  rintro u f ⟨t, q, x, y, rfl⟩
  obtain ⟨t', q', x', y', h⟩ := State.filterMinute_shape f
    { s with filters := t, queue := q, slotA := x, slotB := y }
  exact ⟨t', q', x', y', h⟩

theorem State.filterAdmitted_shape (f : FilterNo) (s : State) :
    ∃ t n, s.filterAdmitted f =
      { s with filters := t, queue := { s.queue with serviceCount := n } } := by
  obtain ⟨n, m, h⟩ := State.countTransition_shape (s.filter f).state .wash s
  exact ⟨_, m, by simp only [State.filterAdmitted]; rw [h]; rfl⟩

theorem State.filterWashEnd_shape (f : FilterNo) (outcome : WashOutcome) (cause : Cause) (seq : Count16)
    (s : State) :
    ∃ t q, s.filterWashEnd f outcome cause seq = { s with filters := t, queue := q } := by
  have filed : ∀ (was now : FilterState) (r : FilterRec), ∃ t q,
      (s.countTransition was now).fileFilter f r = { s with filters := t, queue := q } := by
    intro was now r
    obtain ⟨n, m, h⟩ := State.countTransition_shape was now s
    rw [h]
    obtain ⟨q, e⟩ := State.fileFilter_shape f r { s with
      filters := { s.filters with serviceCount := n }, queue := { s.queue with serviceCount := m } }
    exact ⟨_, q, e⟩
  simp only [State.filterWashEnd]
  split
  · split <;> exact filed _ _ _
  · obtain ⟨n, m, h⟩ := State.countTransition_shape
      ((s.filter f).ended outcome cause seq).state .absent s
    rw [h]
    exact ⟨_, _, rfl⟩

end Sys2Proof.Machine
end

