-- ==== Sys2Proof/Laws/Notices.lean ====
section
/-! SUPPORT. What the entry of owed notices can change: outbound queues, what is owed, and a valve timer
that a STEP_SET starts. -/

namespace Sys2Proof.Machine

/-! ### One notice -/

/-- An owed notice enters where a port exists for it and a place is free, and nothing happens otherwise
(R158). -/
theorem State.enterNotice_cases (n : Notice) (s : State) :
    s.enterNotice n = s ∨
      ∃ p fr, s.noticeFrame n = some (p, fr) ∧ (s.port p).outbound.length < 8 ∧
        s.enterNotice n = (s.sendFrame p fr).noticeSent n := by
  unfold State.enterNotice
  split
  · next p fr h =>
    split
    · next k =>
      refine .inr ⟨p, fr, h, ?_, rfl⟩
      simp only [PortRec.freePlaces] at k
      omega
    · exact .inl rfl
  · exact .inl rfl

theorem State.sendFrame_shape (p : Port) (fr : Frame) (s : State) :
    ∃ ps, s.sendFrame p fr = { s with ports := ps } := by
  cases p <;> exact ⟨_, rfl⟩

@[simp] theorem State.sendFrame_port_self (p : Port) (fr : Frame) (s : State) :
    (s.sendFrame p fr).port p = { s.port p with outbound := (s.port p).outbound ++ [fr] } :=
  State.port_setPort_self _ _ _

theorem State.sendFrame_port_other (p q : Port) (fr : Frame) (s : State) (h : q ≠ p) :
    (s.sendFrame p fr).port q = s.port q := State.port_setPort_other _ _ _ _ h

@[simp] theorem State.noticeSent_port (n : Notice) (s : State) (p : Port) :
    (s.noticeSent n).port p = s.port p := by
  cases n with
  | slot i => exact State.port_setSlot _ _ _ _
  | washEnd f => exact State.port_setFilter _ _ _ _
  | commitDone => cases p <;> rfl

theorem State.enterNotice_shape (n : Notice) (s : State) :
    ∃ ps t y z c, s.enterNotice n =
      { s with ports := ps, filters := t, slotA := y, slotB := z,
               store := { s.store with owedDone := c } } := by
  obtain h | ⟨p, fr, -, -, h⟩ := State.enterNotice_cases n s
  · exact ⟨_, _, _, _, _, h⟩
  · obtain ⟨ps, k⟩ := State.sendFrame_shape p fr s
    rw [h, k]
    cases n with
    | slot i => cases i <;> exact ⟨_, _, _, _, _, rfl⟩
    | washEnd f => exact ⟨_, _, _, _, _, rfl⟩
    | commitDone => exact ⟨_, _, _, _, _, rfl⟩

/-! ### Any number of notices -/

theorem NoticesEntered.trans {s t u : State} (h : NoticesEntered s t) (k : NoticesEntered t u) :
    NoticesEntered s u := by
  induction k with
  | nothing => exact h
  | chose v _ ih => exact .chose v ih
  | entered v n _ ih => exact .entered v n ih

theorem noticesEntered_offerAt (k : Nat) (p : Port) (s : State) : NoticesEntered s (s.offerAt k p) := by
  induction k generalizing s with
  | zero => exact .nothing
  | succ k ih =>
    unfold State.offerAt
    split
    · exact .nothing
    · exact (NoticesEntered.entered _ _ .nothing).trans (ih _)
    · exact (NoticesEntered.entered _ _ (.chose _ .nothing)).trans (ih _)

/-- The offering of owed notices enters notices and does nothing else (R158, log 18). -/
theorem noticesEntered_offerAll (s : State) : NoticesEntered s s.offerAll := by
  unfold State.offerAll
  generalize allPorts = l
  induction l generalizing s with
  | nil => exact .nothing
  | cons p l ih => exact (noticesEntered_offerAt 19 p s).trans (ih _)

/-- Where notices have entered, nothing but the ports, the filters' owed ends, the slots and what the Page
Store owes may differ, and the count of free choices. -/
theorem NoticesEntered.shape {s t : State} (h : NoticesEntered s t) :
    ∃ ps r y z c n, t =
      { s with ports := ps, filters := r, slotA := y, slotB := z,
               store := { s.store with owedDone := c }, free := n } := by
  induction h with
  | nothing => exact ⟨_, _, _, _, _, _, rfl⟩
  | chose u _ ih =>
    obtain ⟨ps, r, y, z, c, n, rfl⟩ := ih
    exact ⟨ps, r, y, z, c, n + 1, rfl⟩
  | entered u x _ ih =>
    obtain ⟨ps, r, y, z, c, n, rfl⟩ := ih
    obtain ⟨ps', r', y', z', c', k⟩ := State.enterNotice_shape x
      { s with ports := ps, filters := r, slotA := y, slotB := z,
               store := { s.store with owedDone := c }, free := n }
    exact ⟨ps', r', y', z', c', n, k⟩

/-! ### What entered notices leave of a port, a filter and a slot -/

/-- Frames may have joined the outbound queue of a port, and the rest of its record is as it was. -/
theorem NoticesEntered.port {s t : State} (h : NoticesEntered s t) (p : Port) :
    ∃ frames, t.port p = { s.port p with outbound := (s.port p).outbound ++ frames } := by
  induction h with
  | nothing => exact ⟨[], by simp⟩
  | chose u _ ih =>
    obtain ⟨l, k⟩ := ih
    exact ⟨l, by rw [← k]; cases p <;> rfl⟩
  | entered u n _ ih =>
    obtain ⟨l, k⟩ := ih
    obtain e | ⟨q, fr, -, -, e⟩ := State.enterNotice_cases n u
    · exact ⟨l, by rw [e, k]⟩
    · rw [e, State.noticeSent_port]
      by_cases hq : p = q
      · subst hq
        exact ⟨l ++ [fr], by rw [State.sendFrame_port_self, k]; simp⟩
      · exact ⟨l, by rw [State.sendFrame_port_other _ _ _ _ hq, k]⟩

/-- Nothing of a filter record but its owed WASH_END may have changed. -/
theorem NoticesEntered.filter {s t : State} (h : NoticesEntered s t) (f : FilterNo) :
    ∃ b, t.filter f = { s.filter f with endOwed := b } := by
  induction h with
  | nothing => exact ⟨_, rfl⟩
  | chose u _ ih => exact ih
  | entered u n _ ih =>
    obtain ⟨b, k⟩ := ih
    obtain e | ⟨q, fr, -, -, e⟩ := State.enterNotice_cases n u
    · exact ⟨b, by rw [e, k]⟩
    · rw [e]
      have sent : (u.sendFrame q fr).filter f = u.filter f := State.filter_setPort _ _ _ _
      cases n with
      | slot i => exact ⟨b, by rw [← k, ← sent]; exact State.filter_setSlot _ _ _ _⟩
      | commitDone => exact ⟨b, by rw [← k, ← sent]; rfl⟩
      | washEnd g =>
        by_cases hg : f = g
        · subst hg
          refine ⟨false, ?_⟩
          rw [State.noticeSent, State.filter_setFilter_self, sent, k]
        · refine ⟨b, ?_⟩
          rw [State.noticeSent, State.filter_setFilter_other _ _ _ _ hg, sent, k]

/-- Nothing of a slot but its owed notice and its valve timer may have changed. -/
theorem NoticesEntered.slot {s t : State} (h : NoticesEntered s t) (i : SlotId) :
    ∃ o v, t.slot i = { s.slot i with noticeOwed := o, valveTimer := v } := by
  induction h with
  | nothing => exact ⟨_, _, rfl⟩
  | chose u _ ih =>
    obtain ⟨o, v, k⟩ := ih
    exact ⟨o, v, by rw [← k]; cases i <;> rfl⟩
  | entered u n _ ih =>
    obtain ⟨o, v, k⟩ := ih
    obtain e | ⟨q, fr, -, -, e⟩ := State.enterNotice_cases n u
    · exact ⟨o, v, by rw [e, k]⟩
    · rw [e]
      have sent : ∀ j, (u.sendFrame q fr).slot j = u.slot j := fun j => State.slot_setPort _ _ _ _
      cases n with
      | washEnd f => exact ⟨o, v, by rw [← k, ← sent]; exact State.slot_setFilter _ _ _ _⟩
      | commitDone => exact ⟨o, v, by rw [← k, ← sent]; cases i <;> rfl⟩
      | slot j =>
        by_cases hj : i = j
        · subst hj
          rw [State.noticeSent, State.slot_setSlot_self, sent, k]
          exact ⟨_, _, rfl⟩
        · refine ⟨o, v, ?_⟩
          rw [State.noticeSent, State.slot_setSlot_other _ _ _ _ hj, sent, k]

/-! ### What stays owed -/

theorem State.mem_readyAt {s : State} {p : Port} {n : Notice} (h : n ∈ s.readyAt p) :
    0 < (s.port p).freePlaces ∧ ∃ fr, s.noticeFrame n = some (p, fr) := by
  unfold State.readyAt at h
  split at h
  · next k =>
    refine ⟨k, ?_⟩
    have hn := (List.mem_filter.1 h).2
    cases e : s.noticeFrame n with
    | none => simp [e] at hn
    | some x =>
      obtain ⟨q, fr⟩ := x
      simp only [e, Option.any_some, beq_iff_eq] at hn
      exact ⟨fr, by rw [hn]⟩
  · cases h

@[simp] theorem State.port_chosen (s : State) (p : Port) : s.chosen.port p = s.port p := by cases p <;> rfl

/-- The chosen one of a list is in it. -/
theorem chosen_mem {α : Type} (l : List α) (k : Nat) (n : α) (h : n ∈ l) : l.getD k n ∈ l := by
  by_cases hk : k < l.length
  · simp [hk]
  · simp only [List.getD_eq_default _ _ (Nat.le_of_not_lt hk)]; exact h

/-- An owed notice that can enter a port's outbound queue takes a place there, and no other port's. -/
theorem State.enterNotice_of_ready {s : State} {p : Port} {n : Notice} (h : n ∈ s.readyAt p) :
    ((s.enterNotice n).port p).freePlaces + 1 = (s.port p).freePlaces ∧
      ∀ q, q ≠ p → (s.enterNotice n).port q = s.port q := by
  obtain ⟨k, fr, e⟩ := State.mem_readyAt h
  have he : s.enterNotice n = (s.sendFrame p fr).noticeSent n := by simp [State.enterNotice, e, k]
  rw [he]
  refine ⟨?_, fun q hq => by rw [State.noticeSent_port, State.sendFrame_port_other _ _ _ _ hq]⟩
  simp only [State.noticeSent_port, State.sendFrame_port_self]
  simp only [PortRec.freePlaces, List.length_append, List.length_singleton] at k ⊢
  omega

/-- An offering at a port ends with no notice that could enter there, or has filled as many places as it was
given; the other ports are as they were. -/
theorem State.offerAt_cases (k : Nat) (p : Port) (s : State) :
    ((s.offerAt k p).readyAt p = [] ∨ ((s.offerAt k p).port p).freePlaces + k = (s.port p).freePlaces) ∧
      ∀ q, q ≠ p → (s.offerAt k p).port q = s.port q := by
  induction k generalizing s with
  | zero => exact ⟨.inr rfl, fun _ _ => rfl⟩
  | succ k ih =>
    have next : ∀ (u : State) (n : Notice), n ∈ u.readyAt p → (∀ q, u.port q = s.port q) →
        (((u.enterNotice n).offerAt k p).readyAt p = [] ∨
          (((u.enterNotice n).offerAt k p).port p).freePlaces + (k + 1) = (s.port p).freePlaces) ∧
        ∀ q, q ≠ p → ((u.enterNotice n).offerAt k p).port q = s.port q := by
      intro u n hn hu
      obtain ⟨one, others⟩ := State.enterNotice_of_ready hn
      obtain ⟨ends, rest⟩ := ih (u.enterNotice n)
      rw [hu p] at one
      exact ⟨ends.imp id (by omega), fun q hq => by rw [rest q hq, others q hq, hu q]⟩
    unfold State.offerAt
    split
    · next h => exact ⟨.inl h, fun _ _ => rfl⟩
    · next n h => exact next s n (by simp [h]) fun _ => rfl
    · next n m rest h =>
      refine next s.chosen _ ?_ (State.port_chosen s)
      have hc : s.chosen.readyAt p = n :: m :: rest := by rw [← h]; cases p <;> rfl
      rw [hc]
      exact chosen_mem _ _ _ (by simp)

/-- With as many entries as free places, no notice is left that could enter there. -/
theorem State.readyAt_offerAt (k : Nat) (p : Port) (s : State) (h : (s.port p).freePlaces ≤ k) :
    (s.offerAt k p).readyAt p = [] := by
  obtain e | e := (State.offerAt_cases k p s).1
  · exact e
  · have : ((s.offerAt k p).port p).freePlaces = 0 := by omega
    simp [State.readyAt, this]

end Sys2Proof.Machine
end

