-- ==== Sys2Proof/Laws/Link.lean ====
section
/-! SUPPORT. Taking a request: when one is taken, what its answer is, and how a body's result becomes the
command's next state. -/

namespace Sys2Proof.Machine

/-! ### Answers -/

/-- The frames of an answer join the outbound queue together, in their order (R160). -/
theorem State.answer_eq (p : Port) (kind tag : Byte) (reply : Reply) (s : State) :
    s.answer p kind tag reply =
      s.setPort p { s.port p with
        outbound := (s.port p).outbound ++ reply.payloads.map fun pl => ⟨kind, tag, pl⟩ } := by
  unfold State.answer
  generalize reply.payloads = l
  induction l generalizing s with
  | nil =>
    simp only [List.map_nil, List.append_nil]
    exact (State.setPort_port_self s p).symm
  | cons pl l ih =>
    rw [List.foldl_cons, ih]
    simp [State.sendFrame]

/-- An answer taken with its request is the reply of the statements (R154). -/
theorem State.answer_popInbound (p : Port) (kind tag : Byte) (reply : Reply) (u : State) :
    (u.popInbound p).answer p kind tag reply = u.replied p kind tag reply.payloads := by
  rw [State.answer_eq]
  simp [State.popInbound, State.replied]

/-- The one payload of a refusal: the code with the bit of the last frame (R154). -/
@[simp] theorem Reply.refuse_payloads (c : Code) :
    (Reply.refuse c).payloads = [[BitVec.ofNat 8 (c.number + 128)]] := by
  cases c <;> rfl

@[simp] theorem Reply.done_payloads : Reply.done.payloads = [[0x80]] := rfl

@[simp] theorem Reply.single_payloads (pl : List Byte) :
    (Reply.frames [pl]).payloads = [0x80#8 :: pl] := rfl

@[simp] theorem Reply.pair_payloads (a b : List Byte) :
    (Reply.frames [a, b]).payloads = [0x00#8 :: a, 0x90#8 :: b] := rfl

@[simp] theorem Reply.triple_payloads (a b c : List Byte) :
    (Reply.frames [a, b, c]).payloads = [0x00#8 :: a, 0x10#8 :: b, 0xA0#8 :: c] := rfl

/-! ### When a request is taken -/

theorem State.takes_of_hears {s : State} {p : Port} {k : ReqKind} {fr : Frame} (h : s.Hears p k fr) :
    s.takes p k = some fr := by
  obtain ⟨-, hd, hk, hp⟩ := h
  unfold State.takes
  cases hi : (s.port p).inbound with
  | nil => simp [hi] at hd
  | cons x xs =>
    rw [hi] at hd
    cases hd
    simp [hk, hp]

theorem State.takes_none_iff (s : State) (p : Port) (k : ReqKind) :
    s.takes p k = none ↔
      ∀ fr, (s.port p).inbound.head? = some fr → fr.kind = k.code → (s.port p).freePlaces < k.places := by
  unfold State.takes
  cases (s.port p).inbound with
  | nil => simp
  | cons x xs => simp

/-- The Station Link's checks read the role and the bounds of the port alone, so taking the frame does not
change them (Table 10-3). -/
@[simp] theorem State.linkCheck_popInbound (s : State) (p : Port) (k : ReqKind) (pl : List Byte) :
    (s.popInbound p).linkCheck p k pl = s.linkCheck p k pl := by
  simp [State.linkCheck, State.popInbound]

@[simp] theorem State.popInbound_slot (s : State) (p : Port) (i : SlotId) :
    (s.popInbound p).slot i = s.slot i := State.slot_setPort _ _ _ _

@[simp] theorem State.popInbound_filter (s : State) (p : Port) (f : FilterNo) :
    (s.popInbound p).filter f = s.filter f := State.filter_setPort _ _ _ _

@[simp] theorem State.popInbound_plant (s : State) (p : Port) : (s.popInbound p).plant = s.plant :=
  State.plant_setPort _ _ _

@[simp] theorem State.popInbound_role (s : State) (p q : Port) :
    ((s.popInbound p).port q).role = (s.port q).role := by
  by_cases h : q = p
  · subst h; simp [State.popInbound]
  · rw [State.popInbound, State.port_setPort_other _ _ _ _ h]

@[simp] theorem State.popInbound_bounds (s : State) (p q : Port) :
    ((s.popInbound p).port q).bounds = (s.port q).bounds := by
  by_cases h : q = p
  · subst h; simp [State.popInbound]
  · rw [State.popInbound, State.port_setPort_other _ _ _ _ h]

/-- A request that is heard and fails a check of the Station Link is refused with that check's code, and
its block never sees it (R154). -/
theorem State.serve_of_checked {s : State} {p : Port} {k : ReqKind} {fr : Frame} {c : Code} (body : Body)
    (h : s.Hears p k fr) (hc : s.linkCheck p k fr.payload = some c) :
    s.serve p k body = (s.replied p (k.code + 0x80) fr.tag (Reply.refuse c).payloads).offerAll := by
  simp only [State.serve, State.takes_of_hears h, State.handle, State.linkCheck_popInbound, hc,
    State.answer_popInbound]

/-- A request that passes the checks is handed to its block, answered, and followed by owed notices
(R154). -/
theorem State.serve_of_passes {s : State} {p : Port} {k : ReqKind} {fr : Frame} (body : Body)
    (h : s.Passes p k fr) :
    s.serve p k body =
      ((body p fr.payload (s.popInbound p)).1.answer p (k.code + 0x80) fr.tag
        (body p fr.payload (s.popInbound p)).2).offerAll := by
  simp only [State.serve, State.takes_of_hears h.1, State.handle, State.linkCheck_popInbound, h.2]

/-- A body that leaves `u` with its request taken, and replies, replies from `u`. -/
theorem State.serve_replies {s u : State} {p : Port} {k : ReqKind} {fr : Frame} {r : Reply} (body : Body)
    (h : s.Passes p k fr) (hb : body p fr.payload (s.popInbound p) = (u.popInbound p, r)) :
    NoticesEntered (u.replied p (k.code + 0x80) fr.tag r.payloads) (s.serve p k body) := by
  rw [State.serve_of_passes body h, hb]
  show NoticesEntered _ (((u.popInbound p).answer p (k.code + 0x80) fr.tag r).offerAll)
  rw [State.answer_popInbound]
  exact noticesEntered_offerAll _

/-- Whatever a body does to the other blocks, its answer stands first among the frames that joined the
outbound queue, as long as it leaves the port's two queues alone (R154). -/
theorem State.serve_answered {s : State} {p : Port} {k : ReqKind} {fr : Frame} {r : Reply} (body : Body)
    (h : s.Passes p k fr) (hr : (body p fr.payload (s.popInbound p)).2 = r)
    (hi : ((body p fr.payload (s.popInbound p)).1.port p).inbound = (s.port p).inbound.drop 1)
    (ho : ((body p fr.payload (s.popInbound p)).1.port p).outbound = (s.port p).outbound) :
    s.Answered (s.serve p k body) p k fr r.payloads := by
  rw [State.serve_of_passes body h, hr, State.answer_eq]
  obtain ⟨l, e⟩ := (noticesEntered_offerAll (((body p fr.payload (s.popInbound p)).1).setPort p
    { (body p fr.payload (s.popInbound p)).1.port p with
      outbound := ((body p fr.payload (s.popInbound p)).1.port p).outbound ++
        r.payloads.map fun pl => ⟨k.code + 0x80, fr.tag, pl⟩ })).port p
  refine ⟨?_, l, ?_⟩
  · rw [e]; simp [hi]
  · rw [e]; simp [ho]

/-! ### Coverage handed on -/

/-- Nothing follows where the covered set is as it was (R155). -/
theorem State.handCoverage_of_same (s : State) (h : s.coverage = s.queue.covered) : s.handCoverage = s := by
  simp [State.handCoverage, h]

/-! ### Freed places -/

theorem PortRec.headClaim_le (r : PortRec) : r.headClaim ≤ r.freePlaces := by
  unfold PortRec.headClaim
  split
  · omega
  · split <;> omega

/-- A request whose claim is all of the free places that are left still claims them. -/
theorem PortRec.headClaim_of_left {r r' : PortRec} (hi : r'.inbound = r.inbound)
    (hf : r'.freePlaces = r.headClaim) : r'.headClaim = r'.freePlaces := by
  unfold PortRec.headClaim at *
  rw [hi]
  cases e : r.inbound with
  | nil => simp [e] at hf ⊢; omega
  | cons fr rest =>
    simp only [e] at hf ⊢
    split at hf <;> split <;> omega

/-- The offering at a port with a freed place enters notices at that port alone, and a notice that could enter
there stays owed only beside places that the head request claims, all of them (R158, log 18). -/
theorem State.offerFreed_spec (p : Port) (s : State) :
    NoticesEntered s (s.offerFreed p) ∧ (∀ q, q ≠ p → (s.offerFreed p).port q = s.port q) ∧
      ((s.offerFreed p).readyAt p ≠ [] →
        ((s.offerFreed p).port p).freePlaces = ((s.offerFreed p).port p).headClaim) := by
  have entered := noticesEntered_offerAt ((s.port p).freePlaces - (s.port p).headClaim) p s
  obtain ⟨ends, others⟩ := State.offerAt_cases ((s.port p).freePlaces - (s.port p).headClaim) p s
  unfold State.offerFreed
  generalize s.offerAt _ p = t at entered ends others ⊢
  dsimp only
  split
  · next h => exact ⟨entered, others, fun k => absurd h k⟩
  · next n rest h =>
    split
    · refine ⟨(NoticesEntered.chose t entered).trans (noticesEntered_offerAt 19 p _), fun q hq => ?_,
        fun k => absurd (State.readyAt_offerAt 19 p _ ?_) k⟩
      · rw [(State.offerAt_cases 19 p _).2 q hq, State.port_chosen, others q hq]
      · simp only [PortRec.freePlaces]; omega
    · refine ⟨.chose t entered, fun q hq => by rw [State.port_chosen, others q hq], fun _ => ?_⟩
      rw [State.port_chosen]
      have le := (s.port p).headClaim_le
      obtain ⟨frames, e⟩ := entered.port p
      have hf : (t.port p).freePlaces = (s.port p).headClaim := by
        obtain k | k := ends
        · simp [h] at k
        · omega
      exact (PortRec.headClaim_of_left (by rw [e]) hf).symm

end Sys2Proof.Machine
end

