-- ==== Sys2Proof/Laws/Presence.lean ====
section
/-! SUPPORT. What a change of gallery presence can do to the slots and the arbiter. -/

namespace Sys2Proof.Machine

/-! ### Shapes -/

theorem State.halt_shape (i : SlotId) (s : State) :
    ∃ y z a v, s.halt i =
      { s with slotA := y, slotB := z, arbiter := a, monitor := { s.monitor with waterView := v } } := by
  obtain ⟨y, z, a, v, h⟩ := State.release_shape i s
  unfold State.halt
  rw [h]
  cases i <;> exact ⟨_, _, _, _, rfl⟩

theorem State.losePresence_shape (i : SlotId) (s : State) :
    ∃ y z a v, s.losePresence i =
      { s with slotA := y, slotB := z, arbiter := a, monitor := { s.monitor with waterView := v } } := by
  unfold State.losePresence
  split
  all_goals first | exact State.halt_shape i s | exact ⟨_, _, _, _, rfl⟩

theorem State.regainPresence_shape (i : SlotId) (s : State) :
    ∃ y z, s.regainPresence i = { s with slotA := y, slotB := z } := by
  unfold State.regainPresence
  split
  · exact State.setSlot_shape _ _ _
  · exact ⟨_, _, rfl⟩

theorem State.slotPresence_shape (before : Vector Bool 16) (i : SlotId) (s : State) :
    ∃ y z a v, s.slotPresence before i =
      { s with slotA := y, slotB := z, arbiter := a, monitor := { s.monitor with waterView := v } } := by
  unfold State.slotPresence
  split
  · exact ⟨_, _, _, _, rfl⟩
  · split
    · exact State.losePresence_shape i s
    · split
      · obtain ⟨y, z, h⟩ := State.regainPresence_shape i s
        exact ⟨y, z, s.arbiter, s.monitor.waterView, h⟩
      · exact ⟨_, _, _, _, rfl⟩

/-- Both slots take a change of coverage, in one of the two orders, after a free choice or none (log 31). -/
theorem State.slotsPresence_cases (before : Vector Bool 16) (s : State) :
    ∃ t, (t = s ∨ t = s.chosen) ∧
      (s.slotsPresence before = (t.slotPresence before .a).slotPresence before .b ∨
        s.slotsPresence before = (t.slotPresence before .b).slotPresence before .a) := by
  unfold State.slotsPresence
  repeat' split
  exacts [⟨s.chosen, .inr rfl, .inl rfl⟩, ⟨s.chosen, .inr rfl, .inr rfl⟩, ⟨s, .inl rfl, .inl rfl⟩]

theorem State.slotsPresence_shape (before : Vector Bool 16) (s : State) :
    ∃ y z a v n, s.slotsPresence before =
      { s with slotA := y, slotB := z, arbiter := a, monitor := { s.monitor with waterView := v },
               free := n } := by
  obtain ⟨t, ht, h | h⟩ := State.slotsPresence_cases before s
  · obtain ⟨y, z, a, v, e⟩ := State.slotPresence_shape before .a t
    obtain ⟨y', z', a', v', e'⟩ := State.slotPresence_shape before .b (t.slotPresence before .a)
    refine ⟨y', z', a', v', t.free, ?_⟩
    rw [h, e', e]
    rcases ht with rfl | rfl <;> rfl
  · obtain ⟨y, z, a, v, e⟩ := State.slotPresence_shape before .b t
    obtain ⟨y', z', a', v', e'⟩ := State.slotPresence_shape before .a (t.slotPresence before .b)
    refine ⟨y', z', a', v', t.free, ?_⟩
    rw [h, e', e]
    rcases ht with rfl | rfl <;> rfl

/-! ### Coverage -/

/-- A filter is covered exactly while a gallery port has bounds that include it (R113). -/
theorem State.linkCovers_iff (s : State) (f : FilterNo) :
    s.linkCovers f = true ↔
      ∃ p b, (s.port p).role = some .gallery ∧ (s.port p).bounds = some b ∧ b.has f = true := by
  unfold State.linkCovers State.coveringPort
  rw [List.find?_isSome]
  constructor
  · rintro ⟨p, -, h⟩
    simp only [PortRec.covers, Bool.and_eq_true, beq_iff_eq, Option.any_eq_true] at h
    obtain ⟨hr, b, hb, hf⟩ := h
    exact ⟨p, b, hr, hb, hf⟩
  · rintro ⟨p, b, hr, hb, hf⟩
    exact ⟨p, by cases p <;> decide, by simp [PortRec.covers, hr, hb, hf]⟩

@[simp] theorem State.coverage_get (s : State) (f : FilterNo) : s.coverage[f] = s.linkCovers f := by
  simp [State.coverage]

/-- The covering port of a filter covers it (R69). -/
theorem State.coveringPort_covers (s : State) (f : FilterNo) (p : Port) (h : s.coveringPort f = some p) :
    (s.port p).covers f = true :=
  List.find?_some (p := fun p => (s.port p).covers f) h

/-- The covered set depends on the roles and the bounds of the ports alone. -/
theorem State.coverage_congr (s t : State)
    (h : ∀ p, (t.port p).role = (s.port p).role ∧ (t.port p).bounds = (s.port p).bounds) :
    t.coverage = s.coverage ∧ ∀ f, t.coveringPort f = s.coveringPort f := by
  have c : ∀ f, t.coveringPort f = s.coveringPort f := by
    intro f
    unfold State.coveringPort
    congr 1
    funext p
    simp [PortRec.covers, (h p).1, (h p).2]
  refine ⟨?_, c⟩
  unfold State.coverage State.linkCovers
  simp [c]

end Sys2Proof.Machine
end

