-- ==== Sys2Proof/Laws/Queue.lean ====
section
/-! SUPPORT. What the operations of the Wash Queue do to its entries. -/

namespace Sys2Proof.Machine

/-! ### The order -/

theorem Entry.before_trans (a b c : Entry) (h : a.before b = true) (k : b.before c = true) :
    a.before c = true := by
  simp only [Entry.before, Bool.or_eq_true, Bool.and_eq_true, decide_eq_true_eq] at *
  omega

/-- Of two entries that joined at different numbers, one stands before the other (R29, log 15). -/
theorem Entry.before_total (a b : Entry) (h : a.order ≠ b.order) (k : a.before b = false) :
    b.before a = true := by
  simp only [Entry.before, Bool.or_eq_true, Bool.or_eq_false_iff, Bool.and_eq_true, Bool.and_eq_false_iff,
    decide_eq_true_eq, decide_eq_false_iff_not] at *
  omega

theorem mem_insertEntry (e x : Entry) (l : List Entry) : x ∈ insertEntry e l ↔ x = e ∨ x ∈ l := by
  induction l with
  | nil => simp [insertEntry]
  | cons y ys ih =>
    unfold insertEntry
    split
    · simp
    · simp [ih, or_left_comm]

/-- An entry placed in an ordered list leaves it ordered (R29). -/
theorem insertEntry_ordered (e : Entry) (l : List Entry)
    (h : l.Pairwise fun a b => a.before b = true) (new : ∀ x ∈ l, x.order ≠ e.order) :
    (insertEntry e l).Pairwise fun a b => a.before b = true := by
  induction l with
  | nil => simp [insertEntry]
  | cons y ys ih =>
    rw [List.pairwise_cons] at h
    unfold insertEntry
    split
    · next c =>
      rw [List.pairwise_cons, List.pairwise_cons]
      refine ⟨?_, h⟩
      intro x hx
      rcases List.mem_cons.1 hx with rfl | hx
      · exact c
      · exact Entry.before_trans _ _ _ c (h.1 x hx)
    · next c =>
      rw [List.pairwise_cons]
      refine ⟨?_, ih h.2 fun x hx => new x (List.mem_cons_of_mem _ hx)⟩
      intro x hx
      rcases (mem_insertEntry e x ys).1 hx with rfl | hx
      · exact Entry.before_total _ _ (fun k => new y List.mem_cons_self k.symm) (by simpa using c)
      · exact h.1 x hx

/-! ### Entries of filters -/

theorem WashQueue.mem_drop (f : FilterNo) (q : WashQueue) (e : Entry) :
    e ∈ (q.drop f).entries ↔ e ∈ q.entries ∧ e.filter ≠ f := by
  simp [WashQueue.drop]

theorem WashQueue.mem_place (e x : Entry) (q : WashQueue) :
    x ∈ (q.place e).entries ↔ x = e ∨ (x ∈ q.entries ∧ x.filter ≠ e.filter) := by
  simp [WashQueue.place, mem_insertEntry, WashQueue.drop]

@[simp] theorem WashQueue.entry_drop_self (f : FilterNo) (q : WashQueue) : (q.drop f).entry f = none := by
  simp [WashQueue.entry, WashQueue.drop, List.find?_eq_none]

theorem WashQueue.entry_drop_other (f g : FilterNo) (q : WashQueue) (h : g ≠ f) :
    (q.drop f).entry g = q.entry g := by
  unfold WashQueue.entry WashQueue.drop
  rw [List.find?_filter]
  congr 1
  funext e
  by_cases k : e.filter = g <;> simp [k, h]

theorem find_insertEntry_other (e : Entry) (g : FilterNo) (l : List Entry) (h : g ≠ e.filter) :
    (insertEntry e l).find? (fun x => x.filter == g) = l.find? fun x => x.filter == g := by
  have h' : (e.filter == g) = false := by simpa using fun k => h k.symm
  induction l with
  | nil => simp [insertEntry, h']
  | cons y ys ih =>
    unfold insertEntry
    split
    · rw [List.find?_cons, h']
    · rw [List.find?_cons, List.find?_cons, ih]

theorem find_insertEntry_self (e : Entry) (l : List Entry) (h : ∀ x ∈ l, x.filter ≠ e.filter) :
    (insertEntry e l).find? (fun x => x.filter == e.filter) = some e := by
  induction l with
  | nil => simp [insertEntry]
  | cons y ys ih =>
    have hy : (y.filter == e.filter) = false := by simpa using h y List.mem_cons_self
    unfold insertEntry
    split
    · simp
    · rw [List.find?_cons, hy]
      exact ih fun x hx => h x (List.mem_cons_of_mem _ hx)

@[simp] theorem WashQueue.entry_place_self (e : Entry) (q : WashQueue) :
    (q.place e).entry e.filter = some e := by
  refine find_insertEntry_self e _ fun x hx => ?_
  exact ((WashQueue.mem_drop e.filter q x).1 hx).2

theorem WashQueue.entry_place_other (e : Entry) (g : FilterNo) (q : WashQueue) (h : g ≠ e.filter) :
    (q.place e).entry g = q.entry g := by
  have k := find_insertEntry_other e g (q.drop e.filter).entries h
  exact k.trans (WashQueue.entry_drop_other e.filter g q h)

/-- The entry that a filter has is in the queue and is that filter's. -/
theorem WashQueue.entry_some (q : WashQueue) (f : FilterNo) (e : Entry) (h : q.entry f = some e) :
    e ∈ q.entries ∧ e.filter = f := by
  refine ⟨List.mem_of_find?_eq_some h, ?_⟩
  have k := List.find?_some h
  simpa using k

@[simp] theorem WashQueue.entry_setView (q : WashQueue) (f g : FilterNo) (v : View) :
    (q.setView f v).entry g = q.entry g := rfl

@[simp] theorem WashQueue.views_setView_self (q : WashQueue) (f : FilterNo) (v : View) :
    (q.setView f v).views[f] = v := by simp [WashQueue.setView]

theorem WashQueue.views_setView_other (q : WashQueue) (f g : FilterNo) (v : View) (h : g ≠ f) :
    (q.setView f v).views[g] = q.views[g] := by
  have h' : f.val ≠ g.val := fun e => h (Fin.ext e.symm)
  simp [WashQueue.setView, Vector.getElem_set_ne, h']

/-! ### What a notice can change -/

/-- A notice for a filter that has an entry changes the list alone (R31, R32). -/
theorem WashQueue.noticeEntry_list (f : FilterNo) (e : Entry) (standing : Standing) (urgency : Nat)
    (q : WashQueue) :
    q.noticeEntry f e standing urgency =
      { q with entries := (q.noticeEntry f e standing urgency).entries } := by
  by_cases h : e.cls = .due <;> cases standing <;> simp [WashQueue.noticeEntry, h] <;> rfl

/-- A join changes the list and the two counts of joins (R28). -/
theorem WashQueue.join_list (minute : Count32) (f : FilterNo) (cls : EntryClass)
    (reason : Option ForcedReason) (urgency : Nat) (port : Option Port) (q : WashQueue) :
    q.join minute f cls reason urgency port =
      { q with
        entries := (q.join minute f cls reason urgency port).entries
        joinCounter := q.joinCounter + 1
        joins := q.joins + 1 } := rfl

/-- A standing notice changes the entries, the two join counts and the views, and nothing else of the
queue (R30 to R32). -/
theorem WashQueue.takeNotice_shape (minute : Count32) (f : FilterNo) (standing : Standing)
    (urgency : Nat) (q : WashQueue) :
    ∃ es n m v, q.takeNotice minute f standing urgency =
      { q with entries := es, joinCounter := n, joins := m, views := v } := by
  let q1 := q.setView f ⟨standing, urgency⟩
  cases h : q1.entry f with
  | some e =>
    have k : q.takeNotice minute f standing urgency = q1.noticeEntry f e standing urgency := by
      simp only [WashQueue.takeNotice, show (q.setView f ⟨standing, urgency⟩).entry f = some e from h]
      rfl
    exact ⟨_, q.joinCounter, q.joins, q1.views, k.trans (q1.noticeEntry_list f e standing urgency)⟩
  | none =>
    have k : q.takeNotice minute f standing urgency =
        match standing with
        | .limit => q1.join minute f .forced (some .limit) urgency none
        | .due => q1.join minute f .due none urgency none
        | _ => q1 := by
      simp only [WashQueue.takeNotice, show (q.setView f ⟨standing, urgency⟩).entry f = none from h]
      rfl
    cases standing with
    | limit => exact ⟨_, _, _, q1.views, k.trans (q1.join_list minute f _ _ urgency none)⟩
    | due => exact ⟨_, _, _, q1.views, k.trans (q1.join_list minute f _ _ urgency none)⟩
    | hold | below | out => exact ⟨q.entries, q.joinCounter, q.joins, q1.views, k⟩

end Sys2Proof.Machine
end

