-- ==== Sys2Proof/Laws/Rotation.lean ====
section
/-! SUPPORT. What the rotation can change: a candidate and its report, an admission, and the conditions
that follow. -/

namespace Sys2Proof.Machine

/-! ### The choice of a candidate -/

/-- The choice reports exactly a candidate that changed (R40, R45). -/
theorem State.choose_cases (s : State) :
    (s.firstEligible = s.queue.candidate ∧ s.choose = (false, s)) ∨
      (s.firstEligible ≠ s.queue.candidate ∧ s.choose.1 = true ∧
        ∃ u, s.choose.2 =
            { s with queue := { s.queue with candidate := s.firstEligible }, admission := u } ∧
          u.candidate = s.firstEligible) := by
  by_cases h : s.firstEligible = s.queue.candidate
  · exact .inl ⟨h, by simp [State.choose, h]⟩
  · refine .inr ⟨h, by simp [State.choose, h], ?_⟩
    by_cases k : s.firstEligible.isSome = true
    · exact ⟨{ s.admission with candidate := s.firstEligible }, by simp [State.choose, h, k], rfl⟩
    · exact ⟨{ s.admission with candidate := s.firstEligible, waitReason := .noWait, lastNeeded := none },
        by simp [State.choose, h, k], rfl⟩

theorem State.choose_shape (s : State) :
    ∃ c u, s.choose.2 = { s with queue := { s.queue with candidate := c }, admission := u } := by
  obtain ⟨-, h⟩ | ⟨-, -, u, h, -⟩ := State.choose_cases s
  · exact ⟨s.queue.candidate, s.admission, by rw [h]⟩
  · exact ⟨_, u, h⟩

/-! ### Conditions -/

theorem State.handLive_shape (x : Flag) (was now : Bool) (s : State) :
    ∃ u, s.handLive x was now = { s with status := u } := by
  unfold State.handLive
  split
  · exact ⟨_, rfl⟩
  · exact ⟨_, rfl⟩

theorem State.evalStall_shape (s : State) :
    ∃ n b c u, s.evalStall =
      { s with
        admission := { s.admission with stallHolds := b, stallCount := n, rotationStalled := c }
        status := u } := by
  unfold State.evalStall
  obtain ⟨u, h⟩ := State.handLive_shape .rotationStalled s.admission.rotationStalled _ _
  exact ⟨_, _, _, u, h⟩

theorem State.evalForced_shape (s : State) :
    ∃ b u, s.evalForced =
      { s with admission := { s.admission with forcedWaiting := b }, status := u } := by
  unfold State.evalForced
  obtain ⟨u, h⟩ := State.handLive_shape .forcedWaiting s.admission.forcedWaiting _ _
  exact ⟨_, u, h⟩

/-- A change of the queue's list that is taken changes nothing but forced waiting and the flags (R62). -/
theorem State.takeList_shape (before : WashQueue) (s : State) :
    ∃ b u, s.takeList before =
      { s with admission := { s.admission with forcedWaiting := b }, status := u } := by
  unfold State.takeList
  split
  · exact State.evalForced_shape s
  · exact ⟨s.admission.forcedWaiting, s.status, rfl⟩

/-- The conditions taken anew change nothing but themselves and the flags (R61, R62). -/
theorem State.evalRotation_shape (s : State) :
    ∃ n b c d u, s.evalRotation =
      { s with
        admission :=
          { s.admission with
            stallHolds := b, stallCount := n, rotationStalled := c, forcedWaiting := d }
        status := u } := by
  obtain ⟨d, u, h⟩ := State.evalForced_shape s
  obtain ⟨n, b, c, u', h'⟩ := State.evalStall_shape s.evalForced
  refine ⟨n, b, c, d, u', ?_⟩
  rw [State.evalRotation, h', h]

/-! ### Admission and examination -/

theorem State.admitFilter_shape (f : FilterNo) (needed : Nat) (s : State) :
    ∃ t q u y z a v, s.admitFilter f needed =
      { s with filters := t, queue := q, admission := u, slotA := y, slotB := z, arbiter := a,
               monitor := { s.monitor with waterView := v } } := by
  unfold State.admitFilter
  extract_lets ticket i x s1 s2 s3 u4 s4
  have h4 : ∃ t q u y z, s4 =
      { s with filters := t, queue := q, admission := u, slotA := y, slotB := z } := by
    obtain ⟨t, n, h⟩ := State.filterAdmitted_shape f s1
    obtain ⟨y, z, k⟩ := State.setSlot_shape i x s2
    have e3 : s3 = { s with filters := t, queue := { s1.queue with serviceCount := n },
                            slotA := y, slotB := z } := by
      rw [show s3 = _ from k, show s2 = _ from h]
    refine ⟨t, { s1.queue with serviceCount := n }, s4.admission, y, z, ?_⟩
    show ({ s3 with admission := s4.admission } : State) = _
    rw [e3]
  obtain ⟨t, q, u, y, z, h⟩ := h4
  split
  · exact ⟨t, q, u, y, z, s.arbiter, s.monitor.waterView, h⟩
  · obtain ⟨y', z', a, v, k⟩ := State.losePresence_shape i s4
    exact ⟨t, q, u, y', z', a, v, by rw [k, h]⟩

/-- What holds before an examination and is kept by a wait, an admission and a choice holds after it
(R46, R47, R57). -/
theorem State.examine_keeps (P : State → Prop) (n : Nat) (s : State) (h : P s)
    (wait : ∀ (t : State) (reason : WaitReason) (needed : Option Nat), P t →
      P { t with admission := t.admission.waitWith reason needed })
    (takes : ∀ t f needed, P t → t.admission.candidate = some f → t.verdict f = .fits needed →
      t.firstEligible = some f → P (t.admitFilter f needed))
    (choose : ∀ t, P t → P t.choose.2) : P (s.examine n) := by
  induction n generalizing s with
  | zero => exact h
  | succ n ih =>
    unfold State.examine
    split
    · exact h
    · next f hc =>
      split
      · next reason needed _ => exact wait s reason needed h
      · next needed hv =>
        split
        · next he =>
          have k := choose _ (takes s f needed h hc hv he)
          extract_lets t
          split
          · exact ih _ k
          · exact k
        · exact wait s .noWait (some needed) h

theorem State.examine_shape (n : Nat) (s : State) :
    ∃ t q u y z a v, s.examine n =
      { s with filters := t, queue := q, admission := u, slotA := y, slotB := z, arbiter := a,
               monitor := { s.monitor with waterView := v } } := by
  refine State.examine_keeps (fun w => ∃ t q u y z a v, w =
      { s with filters := t, queue := q, admission := u, slotA := y, slotB := z, arbiter := a,
               monitor := { s.monitor with waterView := v } }) n s ⟨_, _, _, _, _, _, _, rfl⟩ ?_ ?_ ?_
  · rintro w reason needed ⟨t, q, u, y, z, a, v, rfl⟩
    exact ⟨t, q, _, y, z, a, v, rfl⟩
  · rintro w f needed ⟨t, q, u, y, z, a, v, rfl⟩ - - -
    obtain ⟨t', q', u', y', z', a', v', h⟩ := State.admitFilter_shape f needed
      { s with filters := t, queue := q, admission := u, slotA := y, slotB := z, arbiter := a,
               monitor := { s.monitor with waterView := v } }
    exact ⟨t', q', u', y', z', a', v', h⟩
  · rintro w ⟨t, q, u, y, z, a, v, rfl⟩
    obtain ⟨c, u', h⟩ := State.choose_shape
      { s with filters := t, queue := q, admission := u, slotA := y, slotB := z, arbiter := a,
               monitor := { s.monitor with waterView := v } }
    exact ⟨t, { q with candidate := c }, u', y, z, a, v, h⟩

/-- After an event of the rotation the queue, the filters, the Admission Unit, the slots, the grants and the
flags may have changed, and nothing else (R40, R45, R46). -/
theorem State.reconsider_shape (s : State) :
    ∃ t q u y z a v w, s.reconsider =
      { s with filters := t, queue := q, admission := u, slotA := y, slotB := z, arbiter := a,
               monitor := { s.monitor with waterView := v }, status := w } := by
  obtain ⟨c, u, h⟩ := State.choose_shape s
  obtain ⟨t, q, u', y, z, a, v, h'⟩ := State.examine_shape 3 s.choose.2
  obtain ⟨n, b, c', d, w, h''⟩ := State.evalRotation_shape (s.choose.2.examine 3)
  exact ⟨t, q, s.reconsider.admission, y, z, a, v, w, by rw [State.reconsider, h'', h', h]⟩

theorem State.rotate_shape (s : State) :
    ∃ t q u y z a v w, s.rotate =
      { s with filters := t, queue := q, admission := u, slotA := y, slotB := z, arbiter := a,
               monitor := { s.monitor with waterView := v }, status := w } := by
  by_cases e : s.choose.1 = true
  · have k : s.rotate = s.reconsider := by simp [State.rotate, State.reconsider, e]
    rw [k]
    exact State.reconsider_shape s
  · obtain ⟨c, u, h⟩ := State.choose_shape s
    obtain ⟨n, b, c', d, w, h''⟩ := State.evalRotation_shape s.choose.2
    refine ⟨s.filters, { s.queue with candidate := c }, s.choose.2.evalRotation.admission, s.slotA, s.slotB, s.arbiter,
      s.monitor.waterView, w, ?_⟩
    have k : s.rotate = s.choose.2.evalRotation := by simp [State.rotate, e]
    rw [k, h'', h]

/-- An event that acts on the queue's list can change what an event of the rotation can (R40, R62). -/
theorem State.rotateFrom_shape (before : WashQueue) (s : State) :
    ∃ t q u y z a v w, s.rotateFrom before =
      { s with filters := t, queue := q, admission := u, slotA := y, slotB := z, arbiter := a,
               monitor := { s.monitor with waterView := v }, status := w } := by
  obtain ⟨b, w, h⟩ := State.takeList_shape before s
  obtain ⟨t, q, u, y, z, a, v, w', k⟩ := State.rotate_shape (s.takeList before)
  exact ⟨t, q, u, y, z, a, v, w', by rw [State.rotateFrom, k, h]⟩

end Sys2Proof.Machine
end

