-- ==== Sys2Proof/Laws/Wash.lean ====
section
/-! SUPPORT. What a running wash can change, from a repeat to its end. -/

namespace Sys2Proof.Machine

/-! ### The journal -/

/-- A record written is the newest, under the sequence number that was next (R145). -/
theorem Journal.write_last (r : JournalRec) (j : Journal) :
    (j.write r).records.getLast? = some r ∧ (j.write r).nextSequence = j.nextSequence + 1 := by
  simp [Journal.write]

theorem Journal.write_length (r : JournalRec) (j : Journal) (h : j.records.length ≤ 32) :
    (j.write r).records.length = min 32 (j.records.length + 1) := by
  simp only [Journal.write, List.length_append, List.length_cons, List.length_nil]
  split
  · omega
  · rw [List.length_drop]; omega

/-! ### The end of a wash -/

theorem State.latchOutcome_shape (outcome : WashOutcome) (s : State) :
    ∃ w, s.latchOutcome outcome = { s with status := w } := by
  cases outcome <;> exact ⟨_, rfl⟩

theorem State.slotFreed_shape (s : State) :
    ∃ t q u y z a v w, s.slotFreed =
      { s with filters := t, queue := q, admission := u, slotA := y, slotB := z, arbiter := a,
               monitor := { s.monitor with waterView := v }, status := w } := by
  obtain ⟨t, q, u, y, z, a, v, w, h⟩ := State.reconsider_shape
    { s with admission := { s.admission with activeCount := s.admission.activeCount - 1 } }
  exact ⟨t, q, u, y, z, a, v, w, h⟩

/-- A wash end writes one record, and leaves the pages, the ports, the clock and the monitor's channels alone
(R86). -/
theorem State.endWash_shape (i : SlotId) (outcome : WashOutcome) (cause : Cause) (s : State)
    (f : FilterNo) (h : (s.slot i).filter = some f) :
    ∃ t q u y z a v w, s.endWash i outcome cause =
      { s with filters := t, queue := q, admission := u, slotA := y, slotB := z, arbiter := a,
               monitor := { s.monitor with waterView := v }, status := w,
               journal := s.journal.write
                 ((s.slot i).washRecord f s.journal.nextSequence s.clock outcome cause) } := by
  simp only [State.endWash, h]
  generalize s.journal.write _ = j
  generalize s.journal.nextSequence = seq
  obtain ⟨w0, h0⟩ := State.latchOutcome_shape outcome { s with journal := j }
  obtain ⟨t, q, h1⟩ := State.filterWashEnd_shape f outcome cause seq
    { s with journal := j, status := w0 }
  obtain ⟨y, z, h2⟩ := State.setSlot_shape i Slot.atReset
    { s with filters := t, queue := q, status := w0, journal := j }
  obtain ⟨t', q', u', y', z', a', v', w', h3⟩ := State.slotFreed_shape
    { s with filters := t, queue := q, slotA := y, slotB := z, status := w0, journal := j }
  refine ⟨t', q', u', y', z', a', v', w', ?_⟩
  rw [h0, h1]
  exact (congrArg State.slotFreed h2).trans h3

/-- A slot that holds no filter ends no wash. -/
theorem State.endWash_of_none (i : SlotId) (outcome : WashOutcome) (cause : Cause) (s : State)
    (h : (s.slot i).filter = none) : s.endWash i outcome cause = s := by
  simp [State.endWash, h]

/-! ### Repeats and steps -/

theorem State.runAgain_shape (i : SlotId) (s : State) :
    ∃ y z a, s.runAgain i = { s with slotA := y, slotB := z, arbiter := a } := by
  obtain ⟨y, z, h⟩ := State.setSlot_shape i ((s.slot i).enterRun s.plant) s
  obtain ⟨a, h'⟩ := State.redriveDemand_shape i (s.setSlot i ((s.slot i).enterRun s.plant))
  exact ⟨y, z, a, by rw [State.runAgain, h', h]⟩

theorem State.nextStep_shape (i : SlotId) (s : State) :
    ∃ y z a v, s.nextStep i =
      { s with slotA := y, slotB := z, arbiter := a, monitor := { s.monitor with waterView := v } } := by
  unfold State.nextStep
  extract_lets t x0 x
  obtain ⟨y, z, a, v, h⟩ := State.leaveRun_shape i s
  obtain ⟨y', z', h'⟩ := State.setSlot_shape i
    (Slot.enterSetup { x with repeatsLeft := x.step.repeats }) t
  exact ⟨y', z', a, v, by rw [h', show t = _ from h]⟩

/-- The end of a repeat runs the step again, goes on to the next step, or completes the wash (R77). -/
theorem State.endRepeat_cases (i : SlotId) (s : State) :
    let x := s.slot i
    let t := s.setSlot i { x with repeatsLeft := x.repeatsLeft - 1 }
    (1 < x.repeatsLeft ∧ s.endRepeat i = t.runAgain i) ∨
      (x.repeatsLeft ≤ 1 ∧ x.stepIndex + 1 < x.programme.length ∧ s.endRepeat i = t.nextStep i) ∨
      (x.repeatsLeft ≤ 1 ∧ x.programme.length ≤ x.stepIndex + 1 ∧
        s.endRepeat i = t.completeWash i) := by
  intro x t
  by_cases h : 1 < x.repeatsLeft
  · refine .inl ⟨h, ?_⟩
    have k : 0 < (s.slot i).repeatsLeft - 1 := by
      show 0 < x.repeatsLeft - 1
      omega
    simp only [State.endRepeat]
    rw [if_pos k]
  · right
    have k : ¬ 0 < (s.slot i).repeatsLeft - 1 := by
      show ¬ 0 < x.repeatsLeft - 1
      omega
    by_cases m : x.stepIndex + 1 < x.programme.length
    · refine .inl ⟨by omega, m, ?_⟩
      simp only [State.endRepeat]
      rw [if_neg k, if_pos m]
    · refine .inr ⟨by omega, by omega, ?_⟩
      simp only [State.endRepeat]
      rw [if_neg k, if_neg m]

/-! ### The two ways a wash ends -/

theorem State.abort_shape (i : SlotId) (cause : Cause) (s : State) (f : FilterNo)
    (h : (s.slot i).filter = some f) :
    ∃ t q u y z a v w r, s.abort i cause =
      { s with filters := t, queue := q, admission := u, slotA := y, slotB := z, arbiter := a,
               monitor := { s.monitor with waterView := v }, status := w,
               journal := s.journal.write r } ∧
      r.filter = f ∧ r.outcome = .aborted ∧ r.cause = cause ∧ r.sequence = s.journal.nextSequence ∧
      r.endMinute = s.clock := by
  obtain ⟨y, z, a, v, hr⟩ := State.release_shape i (s.withdraw i)
  have hc := (State.release_context (s.withdraw i) i i).1
  have hw : (s.withdraw i).slot i = s.slot i := by cases i <;> rfl
  rw [hw, h] at hc
  obtain ⟨y', z', hs⟩ := State.setSlot_shape i (((s.withdraw i).release i).slot i).stopTimers
    ((s.withdraw i).release i)
  have hf : ((((s.withdraw i).release i).setSlot i
      (((s.withdraw i).release i).slot i).stopTimers).slot i).filter = some f := by
    rw [State.slot_setSlot_self]
    exact hc
  obtain ⟨t, q, u, y2, z2, a2, v2, w, he⟩ := State.endWash_shape i .aborted cause _ f hf
  refine ⟨t, q, u, y2, z2, a2, v2, w, Slot.washRecord (((((s.withdraw i).release i).setSlot i
      (((s.withdraw i).release i).slot i).stopTimers).slot i)) f s.journal.nextSequence s.clock
      .aborted cause, ?_, rfl, rfl, rfl, rfl, rfl⟩
  · rw [State.abort, he]
    simp only [State.setSlot_journal, State.setSlot_clock, State.setSlot_inReset,
      State.setSlot_lineRate, State.setSlot_ports, State.setSlot_monitor, State.setSlot_store,
      State.setSlot_seconds, State.setSlot_free, State.setSlot_pending, hr]
    rfl

end Sys2Proof.Machine
end

