-- ==== Sys2Proof/WellFormed.lean ====
section
/-! DEFINITION. Which commands are well formed: the operands that describe something that can happen
on the part's lines and inputs. The types bound everything else (a reading has 12 bits, a filter
number lies in 0 to 15). -/

namespace Sys2Proof

/-- The well-formedness checks of the commands that carry raw input. -/
def Instr.wellFormed : Instr → Bool
  | .frameArrival _ bytes => bytes != []
  | .discardedFrame _ bytes gap => bytes != [] || gap.isSome
  | .windowCompletion _ r => Machine.goodReading r
  | _ => true

end Sys2Proof
end

