-- ==== Sys2Proof/Tests/Slice0.lean ====
section
/-! SUPPORT. Tests on small states, with the expected values of the manual's worked examples where it has
one, and a named state and operands that meet the hypotheses of each statement. -/

set_option Elab.async false

open Sys2Proof Sys2Proof.Machine

namespace Sys2Proof.Tests

/-! ### Small states -/

/-- The state that a command leads to. -/
def after (c : Instr) (s : State) : State :=
  match exec c s with
  | .next t => t
  | _ => State.reset

/-- The factory plant page with every filter present; averaging exponent 0 on no channel. -/
def site : PlantPage :=
  { PlantPage.factory with
    filters := Vector.replicate 16 { FilterCfg.factory with present := true } }

/-- A part started up on a stored plant page. Its check value is not looked at again before a reset. -/
def started (q : PlantPage) : State :=
  State.booted { PageStore.delivered with plant := ⟨q, 0, false, true⟩ } .baud19200 0 []

/-- A part with P1 attached in GALLERY role over all filters and P3 in SUPERVISOR role. -/
def mannedOn (q : PlantPage) : State :=
  let s := started q
  { s with
    ports :=
      { s.ports with
        p1 := { PortRec.atReset with
          role := some .gallery, bounds := some ⟨0, 15⟩, silenceLimit := 30, silenceTimer := some 30 }
        p3 := { PortRec.atReset with
          role := some .supervisor, silenceLimit := 60, silenceTimer := some 60 } }
    queue := { s.queue with covered := Vector.replicate 16 true } }

/-- The part on the site's plant page. -/
def manned : State := mannedOn site

/-- A request of a kind under tag 9. -/
def req (k : ReqKind) (pl : List Byte) : Frame := ⟨k.code, 9, pl⟩

/-- The state with a request at the head of a port's inbound queue. -/
def asks (p : Port) (k : ReqKind) (pl : List Byte) (s : State) : State :=
  s.setPort p { s.port p with inbound := [req k pl] }

/-- The frames waiting at a port after its request has been taken. -/
def answers (p : Port) (k : ReqKind) (pl : List Byte) (s : State) : List (List Byte) :=
  ((after (k.command p) (asks p k pl s)).port p).outbound.map Frame.payload

/-- The state after a request. -/
def told (p : Port) (k : ReqKind) (pl : List Byte) (s : State) : State :=
  after (k.command p) (asks p k pl s)

/-- Filter 7 is washed in slot A, which stands as `g` makes it from its context at the admission. -/
def washing (g : Slot → Slot) : State :=
  let s := manned.setFilter 7 { manned.filter 7 with state := .wash, standing := .out }
  { s with
    queue := s.queue.setView 7 ⟨.out, 0⟩
    slotA := g (manned.washContext 7 1)
    admission := { s.admission with activeCount := 1, admissionCounter := 1 } }

/-- Slot A in SETUP of a step, its STEP_SET sent. -/
def settingUp (k : Nat) : State :=
  washing fun x => { x with stepIndex := k, noticeOwed := none, valveTimer := some 120 }

/-- Slot A in RUN of a step with repeats left, its grants held and its ramp at 16. -/
def running (k repeats : Nat) : State :=
  let s := washing fun x =>
    { x with
      state := .run, stepIndex := k, repeatsLeft := repeats, noticeOwed := none, valveTimer := none
      stepElapsed := 5
      stepTimer := some 100, rampK := 16
      peakWaste := if k = 5 then some 0 else none }
  let air := decide (k = 1 ∨ k = 2)
  let water := decide (k = 2 ∨ k = 3)
  let holder := fun (b : Bool) => if b then some SlotId.a else none
  { s with
    arbiter :=
      { s.arbiter with
        airHolder := holder air, blowerRun := air, waterHolder := holder water
        waterDemand := if k = 3 then 1222 else if k = 2 then 333 else 0 }
    monitor := { s.monitor with waterView := holder water } }

/-- Slot A waits for the set of its WATER step. -/
def waiting : State :=
  let s := washing fun x =>
    { x with
      state := .waitSupply, stepIndex := 3, noticeOwed := none, valveTimer := none
      supplyWait := some 900 }
  { s with arbiter := { s.arbiter with requests := [⟨.a, 1, .water⟩], basinFull := true } }

/-- Filter 7 heads the queue and is the candidate; the monitor is ready, with the levels of 3.4.1. -/
def queued : State :=
  let s := manned
  { s with
    queue :=
      { s.queue with
        entries := [⟨7, .requested, none, 0, 1, 0, some .p1, 1⟩]
        joinCounter := 1, joins := 1, candidate := some 7 }
    admission :=
      { s.admission with
        candidate := some 7, tankLevel := some 3850, basinLevel := some 900, primed := true
        stallHolds := true, waitReason := .monitor } }

end Sys2Proof.Tests

namespace Sys2Proof.Tests

/-! ### Well-formed commands -/

theorem test_wellFormed_arrival_has_bytes : Instr.wellFormed (.frameArrival .p0 []) = false := by decide

theorem test_wellFormed_discard_has_bytes :
    Instr.wellFormed (.discardedFrame .p0 [] none) = false := by decide

theorem test_wellFormed_completion_is_good :
    Instr.wellFormed (.windowCompletion .tank 0) = false ∧
      Instr.wellFormed (.windowCompletion .tank 4095) = false ∧
      Instr.wellFormed (.windowCompletion .tank 4094) = true := by decide

theorem test_no_word_spells_a_command : decodeTableWord 16 0x1234 = none := rfl

/-! ### Resets and the line -/

theorem test_crc16_check_value :
    crc16 [0x31, 0x32, 0x33, 0x34, 0x35, 0x36, 0x37, 0x38, 0x39] = 0x29B1 := by decide +kernel

theorem test_powerOnReset_drops_supply :
    (after .powerOnReset (running 2 1)).arbiter.waterDemand = 0 ∧
      (after .powerOnReset (running 2 1)).arbiter.blowerRun = false := by decide +kernel

theorem test_resetLine_loses_the_wash :
    (after .resetLine (running 2 1)).slotA.state = .idle ∧
      (after .resetLine (running 2 1)).inReset = true := by decide +kernel

theorem test_startUp_reads_the_straps :
    (after (.startUp true false) { State.reset with inReset := true }).lineRate = .baud57600 := by
  decide +kernel

/-- A PING with tag 7 (R152). -/
theorem test_frameArrival_joins :
    ((after (.frameArrival .p3 [0xA5, 0x03, 0x07, 0x00, 0x0C, 0x5B]) manned).port .p3).inbound =
      [⟨0x03, 0x07, []⟩] := by decide +kernel

theorem test_frameArrival_fifth_frame_is_dropped :
    let s := manned.setPort .p3
      { manned.port .p3 with inbound := List.replicate 4 ⟨0x03, 0x01, []⟩ }
    ((after (.frameArrival .p3 [0xA5, 0x03, 0x07, 0x00, 0x0C, 0x5B]) s).port .p3).dropCount = 1 := by
  decide +kernel

theorem test_discardedFrame_bad_check :
    let t := after (.discardedFrame .p3 [0xA5, 0x03, 0x07, 0x00, 0x0C, 0x5A] none) manned
    (t.port .p3).errorCount = 1 ∧ (t.port .p3).inbound = [] := by decide +kernel

theorem test_discardedFrame_gap_byte_starts_a_frame :
    let t := after (.discardedFrame .p3 [0xA5, 0x03] (some 0xA5)) manned
    (t.port .p3).errorCount = 1 ∧ (t.port .p3).receiver = .gathering [] := by decide +kernel

theorem test_frameDeparture_sends_the_head :
    let s := manned.setPort .p3 { manned.port .p3 with outbound := [⟨0x83, 1, []⟩, ⟨0x83, 2, []⟩] }
    ((after (.frameDeparture .p3) s).port .p3).outbound = [⟨0x83, 2, []⟩] := by decide +kernel

/-- A PING waits at P1 while seven frames go out, and slot A owes its STEP_SET to P1. -/
def wanted : State :=
  let s := asks .p1 .ping [] (washing id)
  s.setPort .p1 { s.port .p1 with outbound := List.replicate 7 ⟨0x83, 1, []⟩ }

/-- R158: one of two free places is enough for the request, and the notice takes the other. -/
theorem test_frameDeparture_fills_the_unclaimed_place :
    let t := after (.frameDeparture .p1) wanted
    (t.slotA.noticeOwed, (t.port .p1).outbound.length, (t.port .p1).headClaim) = (none, 7, 1) := by
  decide +kernel

/-- The lapse of 6.6.1: the slot halts with halt limit 300 and the water is released. -/
theorem test_silenceTimerExpiry_halts_the_wash :
    let t := after (.silenceTimerExpiry .p1) (running 3 1)
    (t.slotA.state, t.slotA.haltTimer, t.slotA.stepElapsed, t.arbiter.waterDemand) =
      (.halt, some 300, 5, 0) := by decide +kernel

/-! ### Requests at the Station Link -/

theorem test_unknownRequest_is_format :
    let s := manned.setPort .p0 { manned.port .p0 with inbound := [⟨0x7F, 5, [1, 2]⟩] }
    ((after (.unknownRequest .p0) s).port .p0).outbound = [⟨0xFF, 5, [0x8E]⟩] := by decide +kernel

theorem test_attach_takes_bounds :
    let t := told .p0 .attach [0, 0, 3, 20] State.reset
    ((t.port .p0).role, (t.port .p0).bounds, (t.port .p0).silenceTimer) =
      (some .gallery, some ⟨0, 3⟩, some 20) := by decide +kernel

theorem test_attach_overlap : answers .p0 .attach [0, 15, 15, 20] manned = [[0x89]] := by decide +kernel

theorem test_detach_uncovers :
    (told .p1 .detach [] manned).queue.covered[7] = false := by decide +kernel

theorem test_ping_names_port_and_role :
    answers .p3 .ping [] manned = [[0x80, 0, 3, 1, 0, 0, 60, 60, 0, 0, 0, 0]] := by decide +kernel

/-! ### Requests at the Filter Table and the Wash Queue -/

/-- Filter 7 in SERVICE with the run minutes and turbidity of 1.6.1. -/
def serving : State :=
  { manned.setFilter 7
      { manned.filter 7 with
        state := .service, runMinutes := 2580, runFraction := 152, turbidity := some 140
        turbidityFraction := 179, urgency := 179, historyUnknown := false } with
    queue := { manned.queue with serviceCount := 1, floor := 0 }
    filters.serviceCount := 1 }

/-- 1.6.1: headloss 1940 against 2200 gives 225, below the NORMAL threshold of 230. -/
theorem test_report_urgency :
    let t := told .p1 .report [7, 1, 0x07, 0x94, 0, 0] serving
    ((t.filter 7).headlossFraction, (t.filter 7).urgency, (t.filter 7).standing) =
      (225, 225, .below) := by decide +kernel

/-- 1.6.1: a turbidity of 12,000 is clamped to 9999 and gives 1023. -/
theorem test_report_clamps :
    let t := told .p1 .report [7, 2, 0, 0, 0x2E, 0xE0] serving
    ((t.filter 7).turbidity, (t.filter 7).turbidityClamped, (t.filter 7).turbidityFraction) =
      (some 9999, true, 1023) := by decide +kernel

theorem test_filterMode_standby_with_minutes_is_range :
    answers .p1 .filterMode [7, 0, 1, 0, 10] manned = [[0x85]] := by decide +kernel

/-- Run minutes 4320 against the limit 4320 give 256: LIMIT at once (1.11.1). -/
theorem test_filterMode_restores_minutes :
    let t := told .p3 .filterMode [7, 1, 1, 0x10, 0xE0] manned
    ((t.filter 7).state, (t.filter 7).runFraction, (t.filter 7).standing, t.filters.serviceCount) =
      (.service, 256, .limit, 1) := by decide +kernel

theorem test_washRequest_joins :
    (told .p1 .washRequest [7, 0] manned).queue.entries =
      [⟨7, .requested, none, 0, 1, 0, some .p1, 1⟩] := by decide +kernel

theorem test_washRequest_force_from_gallery_is_role :
    answers .p1 .washRequest [7, 1] manned = [[0x82]] := by decide +kernel

/-- Event 6 of 2.7: the mark is the urgency plus 32. -/
theorem test_washWithdraw_defers :
    let s := told .p3 .setClass [2] serving
    let t := told .p3 .washWithdraw [7] s
    ((s.queue.entry 7).map Entry.cls, (t.queue.entry 7).isSome, (t.filter 7).deferralMark,
      (t.filter 7).standing) = (some .due, false, some 211, .hold) := by decide +kernel

/-! ### Requests at the slots -/

theorem test_washAbort_ends_the_wash :
    let t := told .p3 .washAbort [7] (running 3 1)
    (t.slotA.state, (t.filter 7).state, (t.filter 7).lastCause, t.arbiter.waterDemand) =
      (.idle, .standby, .requested, 0) := by decide +kernel

/-- 4.10 at 35 s: the DRAIN step runs with its step timer at 300. -/
theorem test_stepReady_runs_a_drain :
    let t := told .p1 .stepReady [7, 0] (settingUp 0)
    (t.slotA.state, t.slotA.stepTimer, t.slotA.valveTimer) = (.run, some 300, none) := by
  decide +kernel

/-- 5.6.1: the WATER step of demand 1222 begins at 305. -/
theorem test_stepReady_is_granted_water :
    let t := told .p1 .stepReady [7, 3] (settingUp 3)
    (t.slotA.state, t.arbiter.waterHolder, t.arbiter.waterDemand) = (.run, some .a, 305) := by
  decide +kernel

/-- 4.10 at 275 s: STEP_DONE leads to SETUP of step 1, and the queued STEP_SET starts the valve timer. -/
theorem test_stepDone_goes_on :
    let t := told .p1 .stepDone [7, 0] (running 0 1)
    (t.slotA.state, t.slotA.stepIndex, t.slotA.valveTimer) = (.setup, 1, some 120) := by decide +kernel

theorem test_stepFault_aborts :
    let t := told .p1 .stepFault [7, 11] (settingUp 2)
    ((t.filter 7).lastOutcome, (t.filter 7).lastCause, (t.filter 7).washFailed) =
      (some .aborted, .valveFault, true) := by decide +kernel

/-! ### Reading requests -/

/-- The fields of filter 7 in WASH: WASH, OUT, area 800, programme 0, limits 2200, 200 and 4320; no
measurement; history unknown (R27, R159). -/
theorem test_readFilter_fields :
    (answers .p3 .readFilter [7] (settingUp 0)).map (List.take 16) =
      [[0x80, 0x80, 0x00, 3, 0, 3, 0x20, 0, 0x08, 0x98, 0, 200, 0x10, 0xE0, 0, 0]] := by decide +kernel

/-- One entry and a candidate: totals with presence bit, then the entry of filter 7 (R42). -/
theorem test_readQueue_totals_and_entry :
    answers .p3 .readQueue [0, 1] queued =
      [[0x80, 1, 1, 7, 0, 0, 0, 1, 0, 8, 0,
        2, 0, 7, 1, 0, 0, 0, 0, 0, 0, 1, 0, 0, 0, 0, 1, 0]] := by decide +kernel

theorem test_readSlots_three_frames :
    (answers .p3 .readSlots [] manned).map (List.take 1) = [[0x00], [0x10], [0xA0]] := by decide +kernel

theorem test_readMonitor_two_frames :
    (answers .p3 .readMonitor [] manned).map (List.take 1) = [[0x00], [0x90]] := by decide +kernel

/-- A journal of 32 records whose oldest is 65520 (9.1.1). -/
def wrapped : State :=
  { manned with journal :=
      ⟨(List.range 32).map fun n =>
          (Slot.atReset).washRecord 7 (BitVec.ofNat 16 (65520 + n)) 0 .complete .noCause, 16⟩ }

/-- 9.1.1: start 65534 is held; start 100 is not. -/
theorem test_journal_across_the_wrap :
    (wrapped.journal.recordsFrom 65534 8).map JournalRec.sequence =
        [65534, 65535, 0, 1, 2, 3, 4, 5] ∧
      (wrapped.journal.recordsFrom 12 8).map JournalRec.sequence = [12, 13, 14, 15] ∧
      (wrapped.journal.recordsFrom 100 3).map JournalRec.sequence = [65520, 65521, 65522] := by
  decide +kernel

/-- The header: 32 held, oldest 65520, next 16, FROM_OLDEST (R146). -/
theorem test_readJournal_header :
    ((answers .p3 .readJournal [0, 100, 3] wrapped).map (List.take 7)).head? =
      some [0x00, 32, 0xFF, 0xF0, 0, 16, 1] := by decide +kernel

/-- The second part of the factory programme: page 0, STORED, part 1, VALID, then its check value, the step
count 6 and SETTLE for 60 s (R144). -/
theorem test_readPage_part :
    (answers .p3 .readPage [0, 0, 1] manned).map (fun pl => (pl.take 5, (pl.drop 7).take 11)) =
      [([0x80, 0, 0, 1, 0], [6, 4, 0, 60, 0, 0, 1, 0, 0, 0, 0])] := by decide +kernel

/-- SUPPLY_SHORT is bit 2; the ALERT0 mask of the factory page is all ten flags, LATCHED (R150). -/
theorem test_readStatus_fields :
    answers .p3 .readStatus [] (manned.latchFlag .supplyShort) =
      [[0x80, 1, 0, 4, 0, 0, 0x03, 0xFF, 0, 0, 0x38, 1]] := by decide +kernel

/-! ### The supervisor's requests -/

/-- 1.6.1: urgency 225 is BELOW under NORMAL and DUE under ELEVATED. -/
theorem test_setClass_restands :
    let s := told .p1 .report [7, 1, 0x07, 0x94, 0, 0] serving
    ((told .p3 .setClass [1] s).filter 7).standing = .due := by decide +kernel

theorem test_setClass_from_gallery_is_role :
    answers .p1 .setClass [1] manned = [[0x82]] := by decide +kernel

theorem test_setPause_pauses :
    (told .p3 .setPause [0] queued).admission.waitReason = .paused := by decide +kernel

theorem test_clockSet_sets_the_clock :
    (told .p3 .clockSet [0x00, 0x01, 0x02, 0x03] manned).clock = 0x00010203 := by decide +kernel

theorem test_clearStatus_keeps_live_flags :
    let s := (manned.latchFlag .supplyShort).setLive .basinFull true
    (told .p3 .clearStatus [0x03, 0xFF] s).status.latched = Flag.basinFull.only := by decide +kernel

theorem test_peakReset_clears_extremes :
    let s := manned.setChannel .tank { manned.monitor.tank with extreme := some 12 }
    (told .p3 .peakReset [] s).monitor.tank.extreme = none := by decide +kernel

/-! ### The page store -/

theorem test_editOpen_takes_the_latch :
    let t := told .p3 .editOpen [3] manned
    (t.store.latch, t.store.staging.map Staged.page) = (some .p3, some (.programme 3)) := by
  decide +kernel

/-- 8.9 row 3: position 3 rate 600 and duration 360. -/
theorem test_editWrite_writes_the_step :
    let t := told .p3 .editWrite [4, 3, 0x02, 0x58, 3, 3, 0x01, 0x68]
      (told .p3 .editOpen [3] manned)
    (match t.store.staging with
      | some (.programme _ _ steps) => steps[3]?
      | _ => none) = some ⟨.water, 360, 600, 1, 0, 0⟩ := by decide +kernel

/-- 8.9 row 4: a rate for a SETTLE step is RANGE. -/
theorem test_editWrite_refuses_a_rate_of_settle :
    (let s := told .p3 .editOpen [3] manned
     answers .p3 .editWrite [4, 4, 0x00, 0xC8]
       (s.setPort .p3 { s.port .p3 with outbound := [] })) = [[0x85]] := by decide +kernel

theorem test_editClose_frees_the_latch :
    (told .p3 .editClose [] (told .p3 .editOpen [8] manned)).store.latch = none := by decide +kernel

/-- 8.9 row 5. -/
theorem test_commit_starts :
    let t := told .p3 .commit [] (told .p3 .editOpen [3] manned)
    (t.store.committing, t.queue.pageStatus[3], t.store.latch) =
      (some (.programme 3), .committing, none) := by decide +kernel

/-- A commit of programme page 3 in progress for P3, the step of 8.9 changed. -/
def committing3 : State :=
  told .p3 .commit []
    (told .p3 .editWrite [4, 3, 0x02, 0x58, 3, 3, 0x01, 0x68] (told .p3 .editOpen [3] manned))

/-- 8.9 row 7 and its arithmetic: the new step asks for 1333 L/s. -/
theorem test_commitCompletion_stores :
    let t := after .commitCompletion committing3
    (t.store.programmes[3].valid, t.queue.pageStatus[3],
      t.store.programmes[3].steps.map (stepDemand 800 2000)) =
      (true, .usable, [0, 0, 333, 1333, 0, 0]) := by decide +kernel

/-! ### Notices -/

/-- Filter 7, slot A, step 0, DRAIN, repeat index 1 (R69). -/
theorem test_stepSet_enters :
    let t := after (.stepSet .a) (washing id)
    ((t.port .p1).outbound, t.slotA.valveTimer) = ([⟨0x60, 0, [7, 0, 0, 0, 1]⟩], some 120) := by
  decide +kernel

theorem test_stepRun_enters :
    let s := (running 3 1).setSlot .a { (running 3 1).slotA with noticeOwed := some .stepRun }
    ((after (.stepRun .a) s).port .p1).outbound = [⟨0x61, 0, [7, 3, 1]⟩] := by decide +kernel

/-- Filter 7 owes a WASH_END. -/
def owing : State :=
  manned.setFilter 7
    { manned.filter 7 with
      endOwed := true, lastOutcome := some .aborted, lastCause := .portLapsed
      lastSequence := some 258 }

theorem test_washEnd_enters :
    let t := after (.washEnd 7) owing
    ((t.port .p1).outbound, (t.filter 7).endOwed) = ([⟨0x62, 0, [7, 2, 8, 1, 2]⟩], false) := by
  decide +kernel

theorem test_commitDone_enters :
    let s := { manned with store := { manned.store with owedDone := some (.p3, .plant) } }
    ((after .commitDone s).port .p3).outbound = [⟨0x63, 0, [8, 0]⟩] := by decide +kernel

/-! ### Time -/

/-- 1.10: 2584 minutes give the fraction 153. -/
theorem test_filterMinute_counts_run_minutes :
    let s := serving.setFilter 7 { serving.filter 7 with runMinutes := 2583 }
    let t := s.filterMinute 7
    ((t.filter 7).runMinutes, (t.filter 7).runFraction, (t.filter 7).reportAge) =
      (2584, 153, 1) := by decide +kernel

theorem test_minuteEvent_counts_a_stall :
    let s := { queued with admission := { queued.admission with stallCount := 59 } }
    let t := s.minuteAtAdmission
    (t.admission.stallCount, t.admission.rotationStalled,
      t.status.latched) = (60, true, Flag.rotationStalled.only) := by decide +kernel

theorem test_spacingTimerExpiry_examines :
    let s := { queued with admission := { queued.admission with spacing := some 1 } }
    (after .spacingTimerExpiry s).slotA.filter = some 7 := by decide +kernel

/-- 4.11: the expiry first. -/
theorem test_valveTimerExpiry_aborts :
    let t := after (.valveTimerExpiry .a) (settingUp 2)
    (t.slotA.state, (t.filter 7).state, (t.filter 7).lastCause) =
      (.idle, .standby, .valveTimeout) := by decide +kernel

theorem test_supplyWaitExpiry_withdraws :
    let t := after (.supplyWaitExpiry .a) waiting
    (t.arbiter.requests, (t.filter 7).lastCause) = ([], .supplyWait) := by decide +kernel

/-- 4.10 at 780 s: the AIR_WATER step ends and gives back its supply. -/
theorem test_stepTimerExpiry_goes_on :
    let t := after (.stepTimerExpiry .a) (running 2 1)
    (t.slotA.state, t.slotA.stepIndex, t.arbiter.blowerRun, t.arbiter.waterDemand) =
      (.setup, 3, false, 0) := by decide +kernel

theorem test_stepTimerExpiry_of_waste_sets_ripen_long :
    let t := after (.stepTimerExpiry .a) (running 5 1)
    ((t.filter 7).state, (t.filter 7).lastOutcome) = (.standby, some .completeRipenLong) := by
  decide +kernel

/-- 4.10 at 1770 s: the wash ends COMPLETE with reservation 593,160. -/
theorem test_clearHoldExpiry_completes :
    let s := (running 5 1).setSlot .a { (running 5 1).slotA with clearHold := .running 0 }
    let t := after (.clearHoldExpiry .a) s
    ((t.filter 7).state, t.journal.records.map fun r => (r.outcome, r.stepIndex, r.reservation)) =
      (.service, [(.complete, 5, 593160)]) := by decide +kernel

/-- 5.6.1 at 2 s. -/
theorem test_rampTimerExpiry_raises_the_demand :
    let s := (running 3 1).setSlot .a
      { (running 3 1).slotA with rampK := 4, rampTimer := some 2 }
    let t := after (.rampTimerExpiry .a) s
    (t.slotA.rampK, t.arbiter.waterDemand, t.slotA.rampTimer) = (5, 381, some 2) := by decide +kernel

/-- 6.3.1 at 55 s. -/
theorem test_shortfallTimerExpiry_resettles :
    let s := (running 3 1).setSlot .a { (running 3 1).slotA with shortfall := some 0 }
    let t := after (.shortfallTimerExpiry .a) s
    (t.slotA.state, t.slotA.resettle, t.arbiter.waterDemand, t.status.latched) =
      (.resettle, some 30, 0, Flag.supplyShort.only) := by decide +kernel

/-- A slot in RESETTLE of its WATER step. -/
def resettling : State :=
  washing fun x =>
    { x with
      state := .resettle, stepIndex := 3, noticeOwed := none, valveTimer := none
      resettle := some 30, retryUsed := true }

/-- 6.3.1 at 85 s. -/
theorem test_resettleTimerExpiry_asks_again :
    let t := after (.resettleTimerExpiry .a) resettling
    (t.slotA.state, t.slotA.stepTimer, t.arbiter.waterDemand) = (.run, some 420, 305) := by
  decide +kernel

/-- A slot in HALT of its WATER step. -/
def halted : State :=
  washing fun x =>
    { x with
      state := .halt, stepIndex := 3, noticeOwed := none, valveTimer := none, haltTimer := some 300 }

theorem test_haltTimerExpiry_aborts :
    ((after (.haltTimerExpiry .a) halted).filter 7).lastCause = .portLapsed := by decide +kernel

/-! ### The plant -/

/-- 7.2.1: 2048 against span 5000 scales to 2500. -/
theorem test_channelSample_scales :
    let t := after (.channelSample .tank 2048) manned
    (t.monitor.tank.lastScaled, t.monitor.tank.windowCount, t.monitor.tank.windowSum) =
      (some 2500, 1, 2500) := by decide +kernel

/-- 7.6.2: the totalizer wraps. -/
theorem test_channelSample_rolls_over :
    let q := { site with flowCfg := ⟨4, 9999, 1⟩ }
    let s := mannedOn q
    let t := after (.channelSample .flow 1)
      { s with monitor :=
          { s.monitor with totalLitres := 4294967200, totalRemainder := 5, rollover := 3 } }
    (t.monitor.totalLitres, t.monitor.totalRemainder, t.monitor.rollover, t.monitor.unattributed) =
      (904, 4, 4, 9999) := by decide +kernel

/-- 7.2.1: the fourth sample completes the window. -/
theorem test_windowCompletion_averages :
    let s := mannedOn { site with tankCfg := ⟨2, 3, 5000⟩ }
    let t := after (.windowCompletion .tank 2048)
      (s.setChannel .tank { s.monitor.tank with windowCount := 3, windowSum := 7500 })
    (t.monitor.tank.average, t.monitor.tank.windowCount, t.admission.tankLevel) =
      (some 2500, 0, some 2500) := by decide +kernel

/-- 3.3.1: the reservation of the wash is 593,160 L. -/
theorem test_admission_loads_the_slot :
    let t := after .admission queued
    (t.slotA.filter, t.slotA.reservation, (t.filter 7).state, t.admission.spacing,
      t.queue.entries) = (some 7, 593160, .wash, some 600, []) := by decide +kernel

/-- 5.9 row 4, with one slot: the bar is lifted and the set is granted. -/
theorem test_grant_runs_the_step :
    let t := after (.grant .a) { waiting with arbiter := { waiting.arbiter with basinFull := false } }
    (t.slotA.state, t.arbiter.requests, t.arbiter.waterDemand) = (.run, [], 305) := by decide +kernel

/-- 3.4.1: the candidate waits for the basin with 1,073,160 L needed. -/
theorem test_examination_waits_for_the_basin :
    let s := running 0 1
    let t := told .p1 .washRequest [2, 0]
      { s with
        slotA := { s.slotA with reservation := 620000, delivered := 1400000 }
        admission :=
          { s.admission with
            tankLevel := some 3850, basinLevel := some 900, primed := true } }
    (t.admission.waitReason, t.admission.lastNeeded) = (.basin, some 1073160) := by decide +kernel

/-- Filter 5 waits as DUE behind the candidate, for longer than the stall limit of 60 minutes. -/
def overdue : State :=
  { queued with
    clock := 61
    queue :=
      { queued.queue with
        entries := queued.queue.entries ++ [⟨5, .due, none, 0, 2, 0, none, 2⟩], joinCounter := 2
        joins := 2 } }

/-- R62: the forced entry raises FORCED_WAITING before it is admitted and ends it at once. -/
theorem test_washRequest_forces_and_admits :
    let t := told .p3 .washRequest [5, 1] overdue
    (t.slotA.filter, t.status.latched, t.status.live) = (some 5, Flag.forcedWaiting.only, 0) := by
  decide +kernel

/-- The wash of filter 7 under another plant page. -/
def under (q : PlantPage) (s : State) : State :=
  { s with store := { s.store with plant := { s.store.plant with content := q } } }

/-- R106, R121: with exponent 0 the sample that ends the fault is compared. -/
theorem test_channelSample_ends_the_fault_first :
    let s := under { site with flowCfg := ⟨0, 0, 2500⟩ } (running 3 1)
    let t := after (.channelSample .flow 1)
      { s.setChannel .flow { s.monitor.flow with fault := true } with
        arbiter := { s.arbiter with flowFault := true } }
    (t.monitor.flow.fault, t.arbiter.flowFault, t.slotA.shortfall) = (false, false, some 15) := by
  decide +kernel

/-- 2.7 rows 1 and 2: the higher urgency stands first. -/
theorem test_queue_order :
    (((manned.queue.takeNotice 0 5 .due 190).takeNotice 0 9 .due 201).entries.map fun e =>
      (e.filter, e.ticket)) = [(9, 2), (5, 1)] := by decide +kernel

/-- A second passes: step elapsed rises, the step timer falls. -/
theorem test_second_passes :
    let t := match step (running 3 1) with
      | .next t => t
      | _ => State.reset
    (t.slotA.stepTimer, t.slotA.stepElapsed, t.seconds) = (some 99, 6, 1) := by decide +kernel

end Sys2Proof.Tests

namespace Sys2Proof.Tests

/-! ### The hypotheses of the statements can be met -/

/-- A request that stands at the head of a port's queue and passes the Station Link's checks. -/
theorem asked {p : Port} {k : ReqKind} {pl : List Byte} {s : State}
    (h : s.inReset = false ∧ k.places ≤ (s.port p).freePlaces ∧ s.linkCheck p k pl = none ∧
      (s.port p).inbound.head? = some (req k pl)) : s.Passes p k (req k pl) :=
  ⟨⟨h.1, h.2.2.2, rfl, h.2.1⟩, h.2.2.1⟩

/-- What holds of both slots holds of every slot. -/
theorem every_slot {P : SlotId → Prop} (h : P .a ∧ P .b) : ∀ i, P i
  | .a => h.1
  | .b => h.2

/-- Slot A in RUN of its WATER step with its shortfall timer running. -/
def supplyShort : State :=
  (running 3 1).setSlot .a { (running 3 1).slotA with shortfall := some 0 }

/-- Slot A in RUN of its WASTE step with its clear hold running. -/
def holding : State := (running 5 1).setSlot .a { (running 5 1).slotA with clearHold := .running 0 }

/-- The agreements of the supply, spelled out for both slots, so that they can be decided. -/
theorem agreed {s : State}
    (h : (s.arbiter.blowerRun = s.arbiter.airHolder.isSome ∧
        s.monitor.waterView = s.arbiter.waterHolder ∧
        (s.arbiter.waterHolder = none → s.arbiter.waterDemand = 0)) ∧
      ((∀ f : FilterNo, (s.filter f).state = .wash → (s.holdingSlot f).isSome = true) ∧
        (s.slotA.filter.isSome = true → s.slotA.filter ≠ s.slotB.filter) ∧
        (s.arbiter.requests.map Request.slot).Nodup ∧
        s.admission.activeCount = s.activeSlots) ∧
      ((∀ e ∈ s.queue.entries,
          (s.filter e.filter).state = .standby ∨ (s.filter e.filter).state = .service) ∧
        ∀ f : FilterNo,
          (s.filter f).state = .standby ∨ (s.filter f).state = .service →
            (s.filter f).standing ≠ .out) ∧
      ∀ r ∈ s.arbiter.requests, s.arbiter.grantable r.set = false)
    (hs : ∀ i : SlotId,
      ((s.slot i).state = .idle → s.slot i = Slot.atReset) ∧
      ((s.slot i).state ≠ .idle →
        ∃ f, (s.slot i).filter = some f ∧ (s.filter f).state = .wash) ∧
      (s.slot i).TimersInState ∧ s.GrantsInRun i ∧ s.RequestInWait i ∧
      (s.arbiter.waterHolder = some i → s.arbiter.waterDemand =
        (s.slot i).demands.getD (s.slot i).stepIndex 0 * (s.slot i).rampK / 16)) : s.SupplyAgrees :=
  ⟨⟨h.1.1, h.1.2.1, h.1.2.2, fun i => (hs i).2.2.2.2.2⟩,
    ⟨fun i => ⟨(hs i).1, (hs i).2.1, (hs i).2.2.1, (hs i).2.2.2.1, (hs i).2.2.2.2.1⟩, h.2.1⟩,
    h.2.2.1, h.2.2.2⟩

/-- A request that has arrived does not touch the supply. -/
theorem agreed_asks {s : State} (p : Port) (k : ReqKind) (pl : List Byte) (h : s.SupplyAgrees) :
    (asks p k pl s).SupplyAgrees := by
  cases p <;> exact h

theorem small_states_agree :
    manned.SupplyAgrees ∧ queued.SupplyAgrees ∧ (settingUp 0).SupplyAgrees ∧
      (settingUp 3).SupplyAgrees ∧ (running 0 2).SupplyAgrees ∧ (running 0 1).SupplyAgrees ∧
      (running 3 2).SupplyAgrees ∧ (running 3 1).SupplyAgrees ∧ (running 5 1).SupplyAgrees ∧
      waiting.SupplyAgrees ∧ resettling.SupplyAgrees ∧ halted.SupplyAgrees ∧
      supplyShort.SupplyAgrees ∧ holding.SupplyAgrees := by
  repeat' with_reducible apply And.intro
  all_goals
    refine agreed (by decide +kernel) (every_slot ?_)
    unfold Slot.TimersInState State.GrantsInRun State.RequestInWait
    repeat' with_reducible apply And.intro
    all_goals decide +kernel

/-! #### Steps, reset and start-up -/

theorem witness_SecondPasses :
    (State.reset.pending = [] ∧ State.reset.inReset = false ∧ State.reset.countDown.dueNow = []) ∧
      ({ State.reset with seconds := 58 } : State).countDown.dueNow = [] ∧
      ({ State.reset with seconds := 59 } : State).countDown.dueNow = [.minute] ∧
      (holding.setSlot .a { holding.slotA with clearHold := .frozen 3 }).countDown.dueNow = [] ∧
      (holding.setSlot .a { holding.slotA with clearHold := .running 2 }).countDown.dueNow = [] ∧
      (let s := (settingUp 0).setSlot .a { (settingUp 0).slotA with valveTimer := some 1 }
       s.countDown.dueNow = [.slot .valve .a] ∧
         (after (.valveTimerExpiry .a) s.countDown).dueNow = [] ∧
         ({ s with seconds := 59 } : State).countDown.dueNow = [.minute, .slot .valve .a]) := by
  decide +kernel

theorem witness_ResetsClearTheBlocks : manned.store.commit = none := by decide +kernel

/-- A commit of the plant page in progress for P3. -/
def committingPlant : State :=
  { manned with
    store :=
      { manned.store with
        plant := { manned.store.plant with marker := true }, commit := some (.plant site, .p3) }
    queue := { manned.queue with plantCommitting := true } }

theorem witness_InterruptedCommitIsInvalid :
    committing3.store.commit =
        some (.programme 3 (factoryProgramme.set 3 ⟨.water, 360, 600, 1, 0, 0⟩), .p3) ∧
      committingPlant.store.commit = some (.plant site, .p3) := by
  decide +kernel

theorem witness_StartUpLoadsThePart : (after .resetLine manned).inReset = true := by decide +kernel

/-! #### The station line -/

theorem witness_FramesReadBackFromBytes :
    (∀ x ∈ [([0x00, 0x5A], (⟨0x03, 7, []⟩ : Frame)), ([], ⟨0x39, 1, List.replicate 60 0xA5⟩)],
      (0xA5#8 ∉ x.1 ∧ x.2.payload.length ≤ 60)) ∧ PortRec.atReset.receiver = .hunting := by
  decide +kernel

theorem witness_FramesArriveOrAreDiscarded :
    (manned.inReset = false ∧ (manned.port .p3).receiver = .hunting) ∧
      (60 < (61#8).toNat ∧ 60 < (255#8).toNat) ∧
      (let fr : Frame := ⟨0x39, 1, List.replicate 60 0xA5⟩
       fr.payload.length ≤ 60 ∧ 1 < fr.bytes.length ∧ 65 < fr.bytes.length) ∧
      (0x0C5A#16 ≠ crc16 (⟨0x03, 7, []⟩ : Frame).checked) := by decide +kernel

theorem witness_NoticesEnterAsPlacesFree :
    (manned.inReset = false ∧ ((washing id).port .p1).outbound.length < 8) ∧
      ((washing id).slotA.filter = some 7 ∧ (washing id).coveringPort 7 = some .p1 ∧
        (washing id).slotA.noticeOwed = some .stepSet ∧ (washing id).slotA.state = .setup) ∧
      (let s := (running 3 1).setSlot .a { (running 3 1).slotA with noticeOwed := some .stepRun }
       s.coveringPort 7 = some .p1 ∧ (s.slot .a).noticeOwed = some .stepRun ∧
         (s.port .p1).outbound.length < 8) ∧
      (owing.coveringPort 7 = some .p1 ∧ (owing.filter 7).endOwed = true ∧
        (owing.filter 7).lastOutcome = some .aborted ∧ (owing.filter 7).lastSequence = some 258) ∧
      (let s := { manned with store := { manned.store with owedDone := some (.p3, .plant) } }
       s.store.owedDone = some (.p3, .plant) ∧ (s.port .p3).role.isSome = true) ∧
      (wanted.inReset = false ∧
        (wanted.port .p1).outbound = ⟨0x83, 1, []⟩ :: List.replicate 6 ⟨0x83, 1, []⟩) ∧
      (manned.port .p3).outbound = [] ∧
      (let s := wanted.setPort .p1
         { wanted.port .p1 with outbound := List.replicate 7 ⟨0x83, 1, []⟩ }
       s.readyAt .p1 = [.slot .a] ∧ (s.port .p1).freePlaces = (s.port .p1).headClaim) := by
  decide +kernel

/-! #### Requests at the Station Link -/

/-- A port whose outbound queue is full. -/
def full (p : Port) (s : State) : State :=
  s.setPort p { s.port p with outbound := List.replicate 8 ⟨0x83, 1, []⟩ }

theorem witness_NothingToTakeChangesNothing :
    (manned.port .p3).inbound = [] ∧
      (let s := asks .p3 .ping [] manned
       (s.port .p3).inbound.head? = some (req .ping []) ∧
         (req .ping []).kind ≠ ReqKind.attach.code) ∧
      (let s := asks .p3 .readJournal [0, 0, 1]
         (manned.setPort .p3 { manned.port .p3 with outbound := List.replicate 4 ⟨0x83, 1, []⟩ })
       (s.port .p3).inbound.head? = some (req .readJournal [0, 0, 1]) ∧
         8 < (s.port .p3).outbound.length + ReqKind.readJournal.places) ∧
      (let s := asks .p3 .ping [] (full .p3 manned)
       (s.port .p3).inbound.head? = some (req .ping []) ∧ 8 ≤ (s.port .p3).outbound.length) ∧
      ((after .resetLine manned).inReset = true ∧ (after .resetLine manned).pending = []) ∧
      (manned.slotA.noticeOwed ≠ some .stepSet ∧ manned.slotA.noticeOwed ≠ some .stepRun) ∧
      (let s := (washing id).setPort .p1 PortRec.atReset
       (s.slot .a).filter = some 7 ∧ s.linkCovers 7 = false) ∧
      (let s := full .p1 (washing id)
       (s.slot .a).filter = some 7 ∧ s.coveringPort 7 = some .p1 ∧
         8 ≤ (s.port .p1).outbound.length) ∧
      (manned.filter 7).endOwed = false ∧ State.reset.linkCovers 7 = false ∧
      ((full .p1 owing).coveringPort 7 = some .p1 ∧ 8 ≤ ((full .p1 owing).port .p1).outbound.length) ∧
      manned.store.owedDone = none ∧
      (let s := { full .p3 manned with
          store := { manned.store with owedDone := some (.p3, .plant) } }
       s.store.owedDone = some (.p3, .plant) ∧ 8 ≤ (s.port .p3).outbound.length) := by
  decide +kernel

/-- A request stands at the head of the queue of a port that can answer it. -/
theorem heard {p : Port} {k : ReqKind} {pl : List Byte} {s : State}
    (h : s.inReset = false ∧ k.places ≤ (s.port p).freePlaces ∧
      (s.port p).inbound.head? = some (req k pl)) : s.Hears p k (req k pl) :=
  ⟨h.1, h.2.2, rfl, h.2.1⟩

theorem witness_LinkChecksRefuseInOrder :
    ((asks .p3 .ping [1] manned).Hears .p3 .ping (req .ping [1]) ∧
      ReqKind.ping.lengthOk 1 = false) ∧
    ((asks .p0 .ping [] manned).Hears .p0 .ping (req .ping []) ∧
      ReqKind.ping.lengthOk 0 = true ∧ (manned.port .p0).role = none) ∧
    ((asks .p1 .commit [] manned).Hears .p1 .commit (req .commit []) ∧
      (manned.port .p1).role = some .gallery ∧ ReqKind.commit.allows .gallery = false) ∧
    ((asks .p1 .washAbort [16] manned).Hears .p1 .washAbort (req .washAbort [16]) ∧
      filterOf (byteAt [16] 0) = none ∧ ReqKind.washAbort.boundsChecked = true ∧
      ReqKind.washAbort.allows .gallery = true) ∧
    ((asks .p1 .report [7, 4, 0, 0, 0, 0] manned).Hears .p1 .report (req .report [7, 4, 0, 0, 0, 0]) ∧
      reservedBits .report [7, 4, 0, 0, 0, 0] = true ∧ ReqKind.report.allows .gallery = true ∧
      filterOf (byteAt [7, 4, 0, 0, 0, 0] 0) = some 7 ∧
      ((manned.port .p1).bounds = some ⟨0, 15⟩)) ∧
    (let s := manned.setPort .p0 { manned.port .p0 with inbound := [⟨0x7F, 5, []⟩] }
     s.inReset = false ∧ (s.port .p0).inbound.head? = some ⟨0x7F, 5, []⟩ ∧
       (∀ k ∈ allKinds, (0x7F : Byte) ≠ k.code) ∧ (s.port .p0).outbound.length < 8) := by
  refine ⟨⟨heard (by decide +kernel), by decide +kernel⟩, ⟨heard (by decide +kernel), by decide +kernel⟩,
    ⟨heard (by decide +kernel), by decide +kernel⟩, ⟨heard (by decide +kernel), by decide +kernel⟩,
    ⟨heard (by decide +kernel), by decide +kernel⟩, by decide +kernel⟩

theorem witness_AttachIsAnswered :
    ((asks .p0 .attach [1, 0, 0, 60] manned).Passes .p0 .attach (req .attach [1, 0, 0, 60]) ∧
      byteAt [1, 0, 0, 60] 3 = 60 ∧ byteAt [1, 0, 0, 60] 0 = 1) ∧
    (let s := asks .p1 .attach [0, 15, 15, 1] manned
     s.Passes .p1 .attach (req .attach [0, 15, 15, 1]) ∧
       ∀ q ∈ allPorts, q ≠ .p1 → (s.port q).role ≠ some .gallery) ∧
    (asks .p0 .attach [2, 0, 0, 60] manned).Passes .p0 .attach (req .attach [2, 0, 0, 60]) ∧
    (asks .p0 .attach [1, 0, 0, 0] manned).Passes .p0 .attach (req .attach [1, 0, 0, 0]) ∧
    (asks .p0 .attach [1, 0, 0, 61] manned).Passes .p0 .attach (req .attach [1, 0, 0, 61]) ∧
    (asks .p0 .attach [0, 3, 2, 60] manned).Passes .p0 .attach (req .attach [0, 3, 2, 60]) ∧
    (asks .p0 .attach [0, 3, 16, 60] manned).Passes .p0 .attach (req .attach [0, 3, 16, 60]) ∧
    (let s := asks .p0 .attach [0, 15, 15, 60] manned
     s.Passes .p0 .attach (req .attach [0, 15, 15, 60]) ∧
       (s.port .p1).bounds = some ⟨0, 15⟩ ∧ (⟨15, 15⟩ : Bounds).has 15 = true ∧
       (⟨0, 15⟩ : Bounds).has 15 = true) := by
  refine ⟨⟨asked (by decide +kernel), by decide +kernel⟩, ⟨asked (by decide +kernel), by decide +kernel⟩,
    asked (by decide +kernel), asked (by decide +kernel), asked (by decide +kernel),
    asked (by decide +kernel), asked (by decide +kernel), asked (by decide +kernel), by decide +kernel⟩

theorem witness_PortsDetachAndLapse :
    (asks .p1 .detach [] manned).Passes .p1 .detach (req .detach []) ∧
      manned.inReset = false ∧ (manned.port .p1).silenceTimer.isSome = true :=
  ⟨asked (by decide +kernel), by decide +kernel⟩

/-- P1 gives up filter 7 by re-attaching over the others. -/
theorem witness_PresenceLossHalts :
    (running 3 1).SupplyAgrees ∧ (running 3 1).queue.covered = (running 3 1).coverage ∧
      ((running 3 1).inReset = false ∧ ((running 3 1).port .p1).silenceTimer.isSome = true) ∧
      (asks .p1 .detach [] (running 3 1)).Passes .p1 .detach (req .detach []) ∧
      (asks .p1 .attach [0, 8, 15, 30] (running 3 1)).Passes .p1 .attach
        (req .attach [0, 8, 15, 30]) ∧
      ((running 3 1).slotA.filter = some 7 ∧ (running 3 1).queue.covered[7] = true ∧
        (running 3 1).slotA.state ≠ .halt ∧
        (after (.silenceTimerExpiry .p1) (running 3 1)).linkCovers 7 = false ∧
        (told .p1 .detach [] (running 3 1)).linkCovers 7 = false ∧
        (told .p1 .attach [0, 8, 15, 30] (running 3 1)).linkCovers 7 = false) :=
  ⟨small_states_agree.2.2.2.2.2.2.2.1, by decide +kernel, by decide +kernel, asked (by decide +kernel),
    asked (by decide +kernel), by decide +kernel⟩

/-- The halted wash with no port attached but P3. -/
def deserted : State :=
  { halted.setPort .p1 PortRec.atReset with
    queue := { halted.queue with covered := Vector.replicate 16 false } }

theorem witness_PresenceReturnSetsUp :
    deserted.SupplyAgrees ∧ deserted.queue.covered = deserted.coverage ∧
      (asks .p1 .attach [0, 7, 7, 30] deserted).Passes .p1 .attach (req .attach [0, 7, 7, 30]) ∧
      (deserted.slotA.filter = some 7 ∧ deserted.slotA.state = .halt ∧
        deserted.queue.covered[7] = false ∧
        (told .p1 .attach [0, 7, 7, 30] deserted).linkCovers 7 = true) :=
  ⟨small_states_agree.2.2.2.2.2.2.2.2.2.2.2.1, by decide +kernel, asked (by decide +kernel),
    by decide +kernel⟩

/-! #### Reading requests -/

theorem witness_ReadsAnswerTheirFields :
    (asks .p1 .ping [] manned).Passes .p1 .ping (req .ping []) ∧
      (asks .p1 .readFilter [15] manned).Passes .p1 .readFilter (req .readFilter [15]) ∧
      (asks .p1 .readFilter [16] manned).Passes .p1 .readFilter (req .readFilter [16]) ∧
      (asks .p1 .readSlots [] manned).Passes .p1 .readSlots (req .readSlots []) ∧
      (asks .p1 .readMonitor [] manned).Passes .p1 .readMonitor (req .readMonitor []) ∧
      (asks .p1 .readStatus [] manned).Passes .p1 .readStatus (req .readStatus []) :=
  ⟨asked (by decide +kernel), asked (by decide +kernel), asked (by decide +kernel),
    asked (by decide +kernel), asked (by decide +kernel), asked (by decide +kernel)⟩

/-- A queue of four entries. -/
def fourQueued : State :=
  { manned with queue :=
      (((manned.queue.takeNotice 0 5 .due 190).takeNotice 0 9 .due 201).takeNotice 0 13 .limit 260
        ).takeNotice 0 2 .due 180 }

theorem witness_QueueAndJournalAreRead :
    ((asks .p1 .readQueue [15, 1] manned).Passes .p1 .readQueue (req .readQueue [15, 1]) ∧
      (asks .p1 .readQueue [0, 2] manned).Passes .p1 .readQueue (req .readQueue [0, 2]) ∧
      (asks .p1 .readQueue [0, 0] manned).Passes .p1 .readQueue (req .readQueue [0, 0]) ∧
      (asks .p1 .readQueue [0, 5] manned).Passes .p1 .readQueue (req .readQueue [0, 5]) ∧
      (asks .p1 .readQueue [16, 1] manned).Passes .p1 .readQueue (req .readQueue [16, 1])) ∧
    ((asks .p1 .readQueue [2, 3] fourQueued).Passes .p1 .readQueue (req .readQueue [2, 3]) ∧
      fourQueued.queue.entries.length ≤ 2 + 2) ∧
    ((asks .p1 .readQueue [1, 3] fourQueued).Passes .p1 .readQueue (req .readQueue [1, 3]) ∧
      1 + 2 < fourQueued.queue.entries.length) ∧
    ((asks .p1 .readQueue [2, 4] fourQueued).Passes .p1 .readQueue (req .readQueue [2, 4])) ∧
    ((asks .p1 .readQueue [1, 4] fourQueued).Passes .p1 .readQueue (req .readQueue [1, 4])) ∧
    (∀ count ∈ [0, 1, 2, 3, 4, 5, 6, 7, 8, 9],
      (asks .p1 .readJournal [0, 0, count] wrapped).Passes .p1 .readJournal
        (req .readJournal [0, 0, count])) := by
  refine ⟨⟨asked (by decide +kernel), asked (by decide +kernel), asked (by decide +kernel),
    asked (by decide +kernel), asked (by decide +kernel)⟩, ⟨asked (by decide +kernel), by decide +kernel⟩,
    ⟨asked (by decide +kernel), by decide +kernel⟩, asked (by decide +kernel),
    asked (by decide +kernel), fun count h => asked (by revert count; decide +kernel)⟩

theorem witness_PageIsRead :
    ((asks .p3 .readPage [9, 0, 0] manned).Passes .p3 .readPage (req .readPage [9, 0, 0])) ∧
    ((asks .p3 .readPage [8, 0, 6] manned).Passes .p3 .readPage (req .readPage [8, 0, 6]) ∧
      PageId.plant.number = 8 ∧ PageId.plant.lastPart < 6) ∧
    ((asks .p3 .readPage [7, 2, 0] manned).Passes .p3 .readPage (req .readPage [7, 2, 0]) ∧
      (PageId.programme 7).number = 7) ∧
    ((asks .p3 .readPage [3, 0, 2] committing3).Passes .p3 .readPage (req .readPage [3, 0, 2]) ∧
      committing3.store.committing = some (.programme 3) ∧ 2 ≤ (PageId.programme 3).lastPart) ∧
    ((asks .p3 .readPage [8, 0, 5] manned).Passes .p3 .readPage (req .readPage [8, 0, 5]) ∧
      manned.store.committing ≠ some .plant) ∧
    ((asks .p1 .readPage [3, 1, 0] manned).Passes .p1 .readPage (req .readPage [3, 1, 0]) ∧
      manned.store.latch ≠ some .p1) ∧
    (let s := told .p3 .editOpen [3] manned
     (asks .p3 .readPage [3, 1, 0] s).Passes .p3 .readPage (req .readPage [3, 1, 0]) ∧
       (asks .p3 .readPage [2, 1, 0] s).Passes .p3 .readPage (req .readPage [2, 1, 0]) ∧
       s.store.latch = some .p3 ∧ s.store.staging.map Staged.page = some (.programme 3)) := by
  refine ⟨asked (by decide +kernel), ⟨asked (by decide +kernel), by decide +kernel⟩,
    ⟨asked (by decide +kernel), by decide +kernel⟩, ⟨asked (by decide +kernel), by decide +kernel⟩,
    ⟨asked (by decide +kernel), by decide +kernel⟩, ⟨asked (by decide +kernel), by decide +kernel⟩,
    asked (by decide +kernel), asked (by decide +kernel), by decide +kernel⟩

end Sys2Proof.Tests

namespace Sys2Proof.Tests

/-! #### Filters -/

theorem witness_FractionIsScaledAndBounded :
    0 < 1 ∧ fraction 3 1 < 1023 ∧ fraction 4 1 = 1023 := by decide +kernel

theorem witness_StandingFollowsTheTable :
    let r := manned.filter 7
    ({ r with state := .wash } : FilterRec).state = .wash ∧ r.state = .standby ∧
      ({ r with washFailed := true } : FilterRec).washFailed = true ∧
      (r.washFailed = false ∧ 256 ≤ ({ r with runFraction := 256 } : FilterRec).runFraction ∧
        ¬ 256 ≤ ({ r with runFraction := 255 } : FilterRec).runFraction) ∧
      (let d : FilterRec := { r with state := .service, urgency := 230, deferralMark := some 230 }
       d.state = .service ∧ 230 ≤ d.urgency ∧ d.deferralMark = some 230) ∧
      (let d : FilterRec := { r with state := .service, urgency := 230, deferralMark := some 231 }
       230 ≤ d.urgency ∧ ¬ 231 ≤ d.urgency) ∧
      ({ r with urgency := 229 } : FilterRec).urgency < 230 := by decide +kernel

theorem witness_ReportIsTaken :
    ((asks .p1 .report [0, 1, 0x27, 0x0F, 0, 0] manned).Passes .p1 .report
        (req .report [0, 1, 0x27, 0x0F, 0, 0]) ∧ (manned.filter 0).state = .standby) ∧
      ((asks .p1 .report [15, 3, 0x27, 0x10, 0, 1] manned).Passes .p1 .report
        (req .report [15, 3, 0x27, 0x10, 0, 1]) ∧ (manned.filter 15).state = .standby) ∧
      (bitAt [0, 1, 0x27, 0x0F, 0, 0] 1 0 = true ∧ bitAt [15, 3, 0x27, 0x10, 0, 1] 1 1 = true) ∧
      ((asks .p1 .report [5, 1, 0x27, 0x0F, 0, 0] overdue).Passes .p1 .report
          (req .report [5, 1, 0x27, 0x0F, 0, 0]) ∧
        (overdue.filter 5).washFailed = false ∧ (overdue.filter 5).standing ≠ .limit ∧
        256 ≤ fraction 9999 (overdue.filter 5).headlossLimit ∧
        overdue.admission.forcedWaiting = false ∧
        (overdue.queue.entry 5).map Entry.cls = some .due ∧
        (overdue.queue.entry 5).map Entry.joinMinute = some 0 ∧ overdue.plant.stallLimit = 60) :=
  ⟨⟨asked (by decide +kernel), by decide +kernel⟩, ⟨asked (by decide +kernel), by decide +kernel⟩,
    by decide +kernel, asked (by decide +kernel), by decide +kernel⟩

/-- A turbidity of 150 lies at the ripen limit of the WASTE step and 151 above it. -/
theorem witness_ReportReachesTheWash :
    (asks .p1 .report [7, 2, 0, 0, 0, 150] holding).Passes .p1 .report
        (req .report [7, 2, 0, 0, 0, 150]) ∧
      (asks .p1 .report [7, 2, 0, 0, 0, 151] holding).Passes .p1 .report
        (req .report [7, 2, 0, 0, 0, 151]) ∧
      (asks .p1 .report [7, 2, 0, 0, 0, 150] (running 3 1)).Passes .p1 .report
        (req .report [7, 2, 0, 0, 0, 150]) ∧
      ((holding.filter 7).state = .wash ∧ holding.holdingSlot 7 = some .a ∧
        holding.slotA.state = .run ∧ holding.slotA.step.kind = .waste ∧
        holding.slotA.step.ripenLimit = 150) ∧
      ((running 3 1).holdingSlot 7 = some .a ∧ (running 3 1).slotA.step.kind ≠ .waste) :=
  ⟨asked (by decide +kernel), asked (by decide +kernel), asked (by decide +kernel), by decide +kernel,
    by decide +kernel⟩

theorem witness_ModeIsChanged :
    ((asks .p1 .filterMode [7, 0, 0, 0, 0] serving).Passes .p1 .filterMode
        (req .filterMode [7, 0, 0, 0, 0]) ∧ (serving.filter 7).state = .service ∧
      bitAt [7, 0, 0, 0, 0] 2 0 = false) ∧
    ((asks .p3 .filterMode [0, 1, 1, 0xFF, 0xFF] manned).Passes .p3 .filterMode
        (req .filterMode [0, 1, 1, 0xFF, 0xFF]) ∧ (manned.filter 0).state = .standby ∧
      bitAt [0, 1, 1, 0xFF, 0xFF] 2 0 = true) :=
  ⟨⟨asked (by decide +kernel), by decide +kernel⟩, ⟨asked (by decide +kernel), by decide +kernel⟩⟩

/-- The same ports over a plant without a filter. -/
def vacant : State := mannedOn PlantPage.factory

/-- Filter 7 has a FORCED entry. -/
def forcing (reason : ForcedReason) (by_ : Option Port) : State :=
  { manned with queue := manned.queue.join 0 7 .forced (some reason) 0 by_ }

theorem witness_TableRequestsAreRefused :
    ((asks .p1 .report [7, 0, 0, 0, 0, 0] manned).Passes .p1 .report (req .report [7, 0, 0, 0, 0, 0]) ∧
      (asks .p1 .report [7, 1, 0, 0, 0, 0] vacant).Passes .p1 .report (req .report [7, 1, 0, 0, 0, 0]) ∧
      (vacant.filter 7).state = .absent) ∧
    ((asks .p3 .filterMode [16, 0, 0, 0, 0] manned).Passes .p3 .filterMode
        (req .filterMode [16, 0, 0, 0, 0]) ∧
      (asks .p3 .filterMode [7, 2, 0, 0, 0] manned).Passes .p3 .filterMode
        (req .filterMode [7, 2, 0, 0, 0]) ∧
      (asks .p3 .filterMode [7, 0, 1, 0, 0] manned).Passes .p3 .filterMode
        (req .filterMode [7, 0, 1, 0, 0]) ∧
      (asks .p3 .filterMode [7, 1, 0, 0, 0] vacant).Passes .p3 .filterMode
        (req .filterMode [7, 1, 0, 0, 0]) ∧
      (asks .p3 .filterMode [7, 1, 0, 0, 0] (settingUp 0)).Passes .p3 .filterMode
        (req .filterMode [7, 1, 0, 0, 0]) ∧ ((settingUp 0).filter 7).state = .wash) ∧
    ((asks .p3 .washRequest [16, 0] manned).Passes .p3 .washRequest (req .washRequest [16, 0]) ∧
      (asks .p3 .washRequest [15, 2] manned).Passes .p3 .washRequest (req .washRequest [15, 2]) ∧
      (asks .p1 .washRequest [7, 1] manned).Passes .p1 .washRequest (req .washRequest [7, 1]) ∧
      (asks .p1 .washRequest [7, 0] vacant).Passes .p1 .washRequest (req .washRequest [7, 0]) ∧
      (asks .p3 .washRequest [7, 1] (settingUp 0)).Passes .p3 .washRequest (req .washRequest [7, 1])) ∧
    ((asks .p3 .washWithdraw [16] manned).Passes .p3 .washWithdraw (req .washWithdraw [16]) ∧
      (asks .p3 .washWithdraw [7] vacant).Passes .p3 .washWithdraw (req .washWithdraw [7]) ∧
      ((asks .p3 .washWithdraw [7] manned).Passes .p3 .washWithdraw (req .washWithdraw [7]) ∧
        manned.queue.entry 7 = none) ∧
      ((asks .p3 .washWithdraw [7] (forcing .limit none)).Passes .p3 .washWithdraw
          (req .washWithdraw [7]) ∧
        ((forcing .limit none).queue.entry 7).map Entry.reason = some (some .limit)) ∧
      (asks .p1 .washWithdraw [7] (forcing .supervisor (some .p3))).Passes .p1 .washWithdraw
          (req .washWithdraw [7]) ∧
        ((forcing .supervisor (some .p3)).queue.entry 7).map Entry.cls = some .forced ∧
        (manned.port .p1).role = some .gallery ∧ (manned.port .p3).role ≠ some .gallery) := by
  refine ⟨⟨asked (by decide +kernel), asked (by decide +kernel), by decide +kernel⟩,
    ⟨asked (by decide +kernel), asked (by decide +kernel), asked (by decide +kernel),
      asked (by decide +kernel), asked (by decide +kernel), by decide +kernel⟩,
    ⟨asked (by decide +kernel), asked (by decide +kernel), asked (by decide +kernel),
      asked (by decide +kernel), asked (by decide +kernel)⟩,
    asked (by decide +kernel), asked (by decide +kernel),
    ⟨asked (by decide +kernel), by decide +kernel⟩, ⟨asked (by decide +kernel), by decide +kernel⟩,
    asked (by decide +kernel), by decide +kernel⟩

theorem witness_MinuteIsTaken :
    (manned.inReset = false ∧ (vacant.filter 7).state = .absent ∧ (manned.filter 7).state = .standby ∧
      ((settingUp 0).filter 7).state = .wash ∧ (serving.filter 7).state = .service) ∧
    (let s := { queued with admission := { queued.admission with paused := true } }
     s.admission.stallHolds = true ∧ s.stallCondition = true ∧ s.minuteAtAdmission.stallCondition = true ∧
       s.minuteAtAdmission.admission.admissionCounter = s.admission.admissionCounter) ∧
    (holding.SupplyAgrees ∧ holding.slotA.filter = some 7 ∧ (holding.filter 7).stale = false ∧
      (let s := holding.setFilter 7 { holding.filter 7 with reportAge := 9 }
       s.plant.staleLimit ≤ (s.filter 7).reportAge + 1 ∧ (s.slot .a).clearHold = .running 0)) :=
  ⟨by decide +kernel, by decide +kernel, small_states_agree.2.2.2.2.2.2.2.2.2.2.2.2.2, by decide +kernel⟩

/-! #### The wash queue -/

theorem queues_ordered :
    queued.queue.Ordered ∧ fourQueued.queue.Ordered ∧ (forcing .limit none).queue.Ordered := by
  unfold WashQueue.Ordered
  decide +kernel

theorem witness_NoticeActsOnTheEntry :
    fourQueued.queue.Ordered ∧ fourQueued.queue.entry 7 = none ∧
      (fourQueued.queue.entry 5).map Entry.cls = some .due ∧
      (queued.queue.entry 7).map Entry.cls = some .requested :=
  ⟨queues_ordered.2.1, by decide +kernel⟩

/-- Filter 7 after an aborted wash, with a fraction at its limit. -/
def failed : State :=
  manned.setFilter 7
    { manned.filter 7 with washFailed := true, runFraction := 256, runMinutes := 4320, urgency := 256 }

theorem witness_WashIsRequested :
    ((asks .p1 .washRequest [7, 0] manned).Passes .p1 .washRequest (req .washRequest [7, 0]) ∧
      (manned.filter 7).washFailed = false ∧ manned.queue.entry 7 = none) ∧
    ((asks .p3 .washRequest [5, 1] fourQueued).Passes .p3 .washRequest (req .washRequest [5, 1]) ∧
      (fourQueued.filter 5).state = .standby ∧
      (fourQueued.queue.entry 5).map Entry.cls = some .due) ∧
    ((asks .p1 .washRequest [7, 0] queued).Passes .p1 .washRequest (req .washRequest [7, 0]) ∧
      (queued.queue.entry 7).map Entry.cls = some .requested) ∧
    ((asks .p3 .washRequest [7, 1] (forcing .limit none)).Passes .p3 .washRequest
        (req .washRequest [7, 1]) ∧
      ((forcing .limit none).queue.entry 7).map Entry.cls = some .forced) ∧
    ((asks .p1 .washRequest [7, 0] failed).Passes .p1 .washRequest (req .washRequest [7, 0]) ∧
      (failed.filter 7).washFailed = true ∧ 256 ≤ (failed.filter 7).runFraction ∧
      (failed.filter 7).standing ≠ .limit) ∧ (manned.port .p3).role = some .supervisor ∧
    ((asks .p3 .washRequest [5, 1] overdue).Passes .p3 .washRequest (req .washRequest [5, 1]) ∧
      (overdue.filter 5).state = .standby ∧ overdue.admission.forcedWaiting = false ∧
      (overdue.queue.entry 5).map Entry.cls = some .due) :=
  ⟨⟨asked (by decide +kernel), by decide +kernel⟩, ⟨asked (by decide +kernel), by decide +kernel⟩,
    ⟨asked (by decide +kernel), by decide +kernel⟩, ⟨asked (by decide +kernel), by decide +kernel⟩,
    ⟨asked (by decide +kernel), by decide +kernel⟩, by decide +kernel, asked (by decide +kernel),
    by decide +kernel⟩

/-- Filter 7 in SERVICE, DUE under the class FLOOD, with the entry that its notice made. -/
def dueNow : State := told .p3 .setClass [2] serving

theorem witness_WashIsWithdrawn :
    ((asks .p3 .washWithdraw [7] dueNow).Passes .p3 .washWithdraw (req .washWithdraw [7]) ∧
      (dueNow.filter 7).FractionsCurrent ∧
      ((dueNow.queue.entry 7).map Entry.cls = some .due ∧ (dueNow.filter 7).state = .service ∧
        (dueNow.filter 7).headlossFraction < 256 ∧ (dueNow.filter 7).turbidityFraction < 256 ∧
        (dueNow.filter 7).runFraction < 256)) ∧
    ((asks .p1 .washWithdraw [7] queued).Passes .p1 .washWithdraw (req .washWithdraw [7]) ∧
      (queued.queue.entry 7).map Entry.cls = some .requested ∧
      (queued.queue.views[7]).standing ≠ .due) ∧
    (let s := told .p3 .washRequest [7, 1] dueNow
     let t := s.setPort .p3 { s.port .p3 with outbound := [] }
     (asks .p3 .washWithdraw [7] t).Passes .p3 .washWithdraw (req .washWithdraw [7]) ∧
       (t.queue.entry 7).map Entry.reason = some (some .supervisor) ∧
       (t.queue.views[7]).standing = .due ∧ (t.port .p3).role = some .supervisor) := by
  refine ⟨⟨asked (by decide +kernel), ?_, by decide +kernel⟩,
    ⟨asked (by decide +kernel), by decide +kernel⟩, asked (by decide +kernel), by decide +kernel⟩
  unfold FilterRec.FractionsCurrent
  decide +kernel

/-! #### Admission -/

theorem factory_programme_sound : ProgrammeSound factoryProgramme := by
  unfold ProgrammeSound StepRec.InRange
  decide +kernel

theorem site_sound : site.Sound := by
  unfold PlantPage.Sound PlantPage.InRange FilterCfg.InRange ChannelCfg.InRange
  repeat' with_reducible apply And.intro
  all_goals
    first
      | decide +kernel
      | (intro x; cases x <;> decide +kernel)

theorem witness_ReservationSumsDemands :
    (let x : StepRec := ⟨.water, 1800, 900, 8, 0, 0⟩
     x.kind = .water ∧ stepClamped 3000 9999 x = false ∧ stepClamped 3000 7499 x = true) ∧
      ((⟨.drain, 10, 0, 1, 0, 0⟩ : StepRec).kind ≠ .airWater) ∧ ProgrammeSound factoryProgramme :=
  ⟨by decide +kernel, by decide +kernel, factory_programme_sound⟩

theorem witness_TankAndBasinVolumes :
    600 ≤ site.reserveLevel ∧ 600 = site.reserveLevel + 0 ∧ 9999 = site.reserveLevel + 9399 ∧
      site.basinMaximum ≤ 2500 ∧ site.basinMaximum = 2500 + 0 ∧ site.basinMaximum = 0 + 2500 ∧
      site.InRange := by
  refine ⟨by decide +kernel, by decide +kernel, by decide +kernel, by decide +kernel, by decide +kernel,
    by decide +kernel, site_sound.1⟩

theorem queued_current : queued.CandidateCurrent := by
  unfold State.CandidateCurrent
  decide +kernel

theorem witness_CandidateIsAdmitted :
    (queued.SupplyAgrees ∧ queued.inReset = false ∧ queued.admission.candidate = some 7 ∧
      queued.firstEligible = some 7 ∧ queued.admission.activeCount < 2 ∧
      queued.admission.activeCount < queued.plant.maxConcurrent ∧
      queued.admission.paused = false ∧ queued.admission.spacing = none ∧
      queued.admission.monitorReady = true ∧
      queued.neededVolume 7 ≤ tankAvailable queued.plant (queued.admission.tankLevel.getD 0) ∧
      queued.neededVolume 7 ≤ basinFree queued.plant (queued.admission.basinLevel.getD 0)) ∧
    queued.linkCovers 7 = true ∧ queued.plant.startSpacing ≠ 0 ∧
    (let s := queued.setPort .p1 PortRec.atReset
     s.firstEligible = some 7 ∧ s.linkCovers 7 = false) :=
  ⟨⟨small_states_agree.2.1, by decide +kernel⟩, by decide +kernel⟩

/-- The candidate with its spacing timer running, at given levels. -/
def spaced (tank basin : Nat) : State :=
  { queued with
    admission :=
      { queued.admission with
        spacing := some 1, tankLevel := some tank, basinLevel := some basin } }

/-- 592,800 L and 593,200 L lie about the 593,160 L needed. -/
theorem witness_ExaminationFindsTheFirstFailure :
    (spaced 2083 1511).CandidateCurrent ∧
      ((spaced 2083 1511).inReset = false ∧ (spaced 2083 1511).admission.candidate = some 7 ∧
        (spaced 2083 1511).admission.spacing.isSome = true) ∧
      ((spaced 2083 1511).neededVolume 7 = 593160 ∧ tankAvailable site 2083 = 593200 ∧
        tankAvailable site 2082 = 592800 ∧ basinFree site 1511 = 593400 ∧
        basinFree site 1512 = 592800) ∧
      (let u := (spaced 2083 1511).admission
       u.activeCount < 2 ∧ u.activeCount < site.maxConcurrent ∧ u.paused = false ∧
         u.primed = true ∧ u.tankView = ⟨false, true⟩ ∧ u.flowView = ⟨false, true⟩ ∧
         u.basinView = ⟨false, true⟩) ∧
      (({ spaced 2083 1511 with
            admission := { (spaced 2083 1511).admission with activeCount := 2 } } : State).CandidateCurrent ∧
        ({ spaced 2083 1511 with
            admission := { (spaced 2083 1511).admission with paused := true } } : State).CandidateCurrent ∧
        ({ spaced 2083 1511 with
            admission := { (spaced 2083 1511).admission with primed := false } } : State).CandidateCurrent) ∧
      (let s := { spaced 2083 1511 with
          store := { manned.store with plant := ⟨{ site with maxConcurrent := 1 }, 0, false, true⟩ }
          admission := { (spaced 2083 1511).admission with activeCount := 1 } }
       s.CandidateCurrent ∧ s.plant.maxConcurrent ≤ s.admission.activeCount) := by
  unfold State.CandidateCurrent
  decide +kernel

/-! #### A running wash -/

/-- A request that reaches the slot of filter 7. -/
theorem reaches {p : Port} {k : ReqKind} {pl : List Byte} {s : State} {i : SlotId}
    (h : s.inReset = false ∧ k.places ≤ (s.port p).freePlaces ∧ s.linkCheck p k pl = none ∧
      (s.port p).inbound.head? = some (req k pl))
    (h' : filterOf (byteAt pl 0) = some 7 ∧ (s.filter 7).state = .wash ∧
      s.holdingSlot 7 = some i) : s.ReachesSlot p k (req k pl) 7 i :=
  ⟨asked h, h'⟩

theorem witness_StepReadyIsTaken :
    ((asks .p1 .stepReady [7, 0] (settingUp 0)).SupplyAgrees ∧
      (asks .p1 .stepReady [7, 0] (settingUp 0)).ReachesSlot .p1 .stepReady (req .stepReady [7, 0]) 7 .a ∧
      (settingUp 0).slotA.stepIndex = 0 ∧ (settingUp 0).slotA.state = .setup ∧
      (settingUp 0).slotA.noticeOwed ≠ some .stepSet ∧ (settingUp 0).slotA.step.kind.needs = none) ∧
    ((asks .p1 .stepReady [7, 3] (settingUp 3)).SupplyAgrees ∧
      (asks .p1 .stepReady [7, 3] (settingUp 3)).ReachesSlot .p1 .stepReady (req .stepReady [7, 3]) 7 .a ∧
      (settingUp 3).slotA.step.kind.needs = some .water ∧ (settingUp 3).arbiter.requests = []) :=
  ⟨⟨agreed_asks _ _ _ small_states_agree.2.2.1, reaches (by decide +kernel) (by decide +kernel),
      by decide +kernel⟩,
    ⟨agreed_asks _ _ _ small_states_agree.2.2.2.1, reaches (by decide +kernel) (by decide +kernel),
      by decide +kernel⟩⟩

theorem witness_SlotRequestsAreRefused :
    ((asks .p3 .washAbort [16] manned).Passes .p3 .washAbort (req .washAbort [16]) ∧
      (asks .p1 .stepFault [7, 0] vacant).Passes .p1 .stepFault (req .stepFault [7, 0]) ∧
      (asks .p1 .stepReady [7, 0] manned).Passes .p1 .stepReady (req .stepReady [7, 0]) ∧
      (asks .p1 .stepDone [7, 0] manned).Passes .p1 .stepDone (req .stepDone [7, 0])) ∧
    ((asks .p1 .stepReady [7, 1] (settingUp 0)).ReachesSlot .p1 .stepReady (req .stepReady [7, 1]) 7 .a ∧
      (asks .p1 .stepReady [7, 0] (running 0 1)).ReachesSlot .p1 .stepReady
        (req .stepReady [7, 0]) 7 .a ∧
      ((asks .p1 .stepReady [7, 0] (washing id)).ReachesSlot .p1 .stepReady
          (req .stepReady [7, 0]) 7 .a ∧ (washing id).slotA.noticeOwed = some .stepSet)) ∧
    ((asks .p1 .stepDone [7, 1] (running 0 1)).ReachesSlot .p1 .stepDone (req .stepDone [7, 1]) 7 .a ∧
      (asks .p1 .stepDone [7, 3] (running 3 1)).ReachesSlot .p1 .stepDone (req .stepDone [7, 3]) 7 .a ∧
      (asks .p1 .stepDone [7, 0] (settingUp 0)).ReachesSlot .p1 .stepDone
        (req .stepDone [7, 0]) 7 .a) :=
  ⟨⟨asked (by decide +kernel), asked (by decide +kernel), asked (by decide +kernel),
      asked (by decide +kernel)⟩,
    ⟨reaches (by decide +kernel) (by decide +kernel), reaches (by decide +kernel) (by decide +kernel),
      reaches (by decide +kernel) (by decide +kernel), by decide +kernel⟩,
    reaches (by decide +kernel) (by decide +kernel), reaches (by decide +kernel) (by decide +kernel),
    reaches (by decide +kernel) (by decide +kernel)⟩

/-- The three commands that end a repeat. -/
theorem witness_EndsRepeat :
    (running 3 2).EndsRepeat .a (.stepTimerExpiry .a) ∧ (running 3 1).EndsRepeat .a (.stepTimerExpiry .a) ∧
      (running 5 1).EndsRepeat .a (.stepTimerExpiry .a) ∧ holding.EndsRepeat .a (.clearHoldExpiry .a) ∧
      (asks .p1 .stepDone [7, 0] (running 0 2)).EndsRepeat .a (.stepDone .p1) ∧
      (asks .p1 .stepDone [7, 0] (running 0 1)).EndsRepeat .a (.stepDone .p1) := by
  refine ⟨.inl ⟨rfl, by decide +kernel⟩, .inl ⟨rfl, by decide +kernel⟩, .inl ⟨rfl, by decide +kernel⟩,
    .inr (.inl ⟨rfl, rfl, 0, by decide +kernel⟩),
    .inr (.inr ⟨.p1, req .stepDone [7, 0], 7, rfl,
      reaches (by decide +kernel) (by decide +kernel), by decide +kernel⟩),
    .inr (.inr ⟨.p1, req .stepDone [7, 0], 7, rfl,
      reaches (by decide +kernel) (by decide +kernel), by decide +kernel⟩)⟩

theorem witness_RepeatRunsAgain :
    ((running 3 2).SupplyAgrees ∧ (running 3 2).EndsRepeat .a (.stepTimerExpiry .a) ∧
      1 < (running 3 2).slotA.repeatsLeft ∧ (running 3 2).slotA.step.kind.isWater = true) ∧
    ((asks .p1 .stepDone [7, 0] (running 0 2)).SupplyAgrees ∧
      (asks .p1 .stepDone [7, 0] (running 0 2)).EndsRepeat .a (.stepDone .p1) ∧
      1 < (running 0 2).slotA.repeatsLeft) :=
  ⟨⟨small_states_agree.2.2.2.2.2.2.1, witness_EndsRepeat.1, by decide +kernel⟩,
    agreed_asks _ _ _ small_states_agree.2.2.2.2.1, witness_EndsRepeat.2.2.2.2.1, by decide +kernel⟩

theorem witness_NextStepIsSetUp :
    ((running 3 1).SupplyAgrees ∧ (running 3 1).EndsRepeat .a (.stepTimerExpiry .a) ∧
      (running 3 1).slotA.repeatsLeft ≤ 1 ∧
      (running 3 1).slotA.stepIndex + 1 < (running 3 1).slotA.programme.length) ∧
    ((asks .p1 .stepDone [7, 0] (running 0 1)).SupplyAgrees ∧
      (asks .p1 .stepDone [7, 0] (running 0 1)).EndsRepeat .a (.stepDone .p1)) :=
  ⟨⟨small_states_agree.2.2.2.2.2.2.2.1, witness_EndsRepeat.2.1, by decide +kernel⟩,
    agreed_asks _ _ _ small_states_agree.2.2.2.2.2.1, witness_EndsRepeat.2.2.2.2.2⟩

/-- A DRAIN step that ends its programme, after a WATER step. -/
def draining : State :=
  let s := running 0 1
  s.setSlot .a
    { s.slotA with
      programme := [⟨.water, 300, 600, 1, 0, 0⟩, ⟨.drain, 900, 0, 1, 0, 0⟩], demands := [305, 0]
      stepIndex := 1 }

theorem draining_agrees : draining.SupplyAgrees := by
  refine agreed (by decide +kernel) (every_slot ?_)
  unfold Slot.TimersInState State.GrantsInRun State.RequestInWait
  repeat' with_reducible apply And.intro
  all_goals decide +kernel

/-- R76, R88: a STEP_DONE that ends the wash is answered before the WASH_END enters. -/
theorem test_stepDone_answers_before_the_washEnd :
    let t := told .p1 .stepDone [7, 1] draining
    ((t.port .p1).inbound, (t.port .p1).outbound, (t.filter 7).endOwed) =
      ([], [⟨0x99, 9, [0x80]⟩, ⟨0x62, 0, [7, 0, 0, 0, 0]⟩], false) := by
  decide +kernel

theorem witness_WashCompletes :
    (holding.SupplyAgrees ∧ holding.EndsRepeat .a (.clearHoldExpiry .a) ∧
      holding.slotA.repeatsLeft ≤ 1 ∧ holding.slotA.programme.length ≤ holding.slotA.stepIndex + 1 ∧
      holding.slotA.filter = some 7 ∧ (holding.plant.filters[7]).present = true ∧
      0 < holding.dueThreshold ∧ holding.ripensLong .a (.clearHoldExpiry .a) = false) ∧
    ((running 5 1).SupplyAgrees ∧ (running 5 1).EndsRepeat .a (.stepTimerExpiry .a) ∧
      (running 5 1).ripensLong .a (.stepTimerExpiry .a) = true) ∧
    (let s := under PlantPage.factory holding
     s.SupplyAgrees ∧ s.EndsRepeat .a (.clearHoldExpiry .a) ∧ 0 < s.dueThreshold ∧
       (s.plant.filters[7]).present = false ∧ s.slotA.filter = some 7) ∧
    ((asks .p1 .stepDone [7, 1] draining).SupplyAgrees ∧
      (asks .p1 .stepDone [7, 1] draining).EndsRepeat .a (.stepDone .p1) ∧
      draining.slotA.repeatsLeft ≤ 1 ∧
      draining.slotA.programme.length ≤ draining.slotA.stepIndex + 1) :=
  ⟨⟨small_states_agree.2.2.2.2.2.2.2.2.2.2.2.2.2, witness_EndsRepeat.2.2.2.1, by decide +kernel⟩,
    ⟨small_states_agree.2.2.2.2.2.2.2.2.1, witness_EndsRepeat.2.2.1, by decide +kernel⟩,
    ⟨small_states_agree.2.2.2.2.2.2.2.2.2.2.2.2.2, witness_EndsRepeat.2.2.2.1, by decide +kernel⟩,
    agreed_asks _ _ _ draining_agrees,
    .inr (.inr ⟨.p1, req .stepDone [7, 1], 7, rfl,
      reaches (by decide +kernel) (by decide +kernel), by decide +kernel⟩), by decide +kernel⟩

theorem witness_WashAborts :
    ((settingUp 0).SupplyAgrees ∧ (settingUp 0).slotA.valveTimer.isSome = true ∧
      (settingUp 0).slotA.filter = some 7 ∧ (settingUp 0).inReset = false) ∧
    (waiting.SupplyAgrees ∧ waiting.slotA.supplyWait.isSome = true) ∧
    (halted.SupplyAgrees ∧ halted.slotA.haltTimer.isSome = true) ∧
    ((running 0 1).SupplyAgrees ∧ (running 0 1).slotA.stepTimer.isSome = true ∧
      (running 0 1).slotA.step.kind = .drain) ∧
    ((asks .p3 .washAbort [7] (running 3 1)).SupplyAgrees ∧
      (asks .p3 .washAbort [7] (running 3 1)).ReachesSlot .p3 .washAbort (req .washAbort [7]) 7 .a) ∧
    ((asks .p1 .stepFault [7, 11] (running 3 1)).SupplyAgrees ∧
      (asks .p1 .stepFault [7, 11] (running 3 1)).ReachesSlot .p1 .stepFault
        (req .stepFault [7, 11]) 7 .a) :=
  ⟨⟨small_states_agree.2.2.1, by decide +kernel⟩,
    ⟨small_states_agree.2.2.2.2.2.2.2.2.2.1, by decide +kernel⟩,
    ⟨small_states_agree.2.2.2.2.2.2.2.2.2.2.2.1, by decide +kernel⟩,
    ⟨small_states_agree.2.2.2.2.2.1, by decide +kernel⟩,
    ⟨agreed_asks _ _ _ small_states_agree.2.2.2.2.2.2.2.1,
      reaches (by decide +kernel) (by decide +kernel)⟩,
    agreed_asks _ _ _ small_states_agree.2.2.2.2.2.2.2.1,
    reaches (by decide +kernel) (by decide +kernel)⟩

theorem witness_RampRises :
    let s := (running 3 1).setSlot .a { (running 3 1).slotA with rampK := 15, rampTimer := some 0 }
    s.inReset = false ∧ (s.slot .a).rampTimer.isSome = true := by decide +kernel

theorem witness_ShortfallIsTaken :
    supplyShort.SupplyAgrees ∧
      (supplyShort.inReset = false ∧ supplyShort.slotA.shortfall.isSome = true ∧
        supplyShort.slotA.filter = some 7 ∧ supplyShort.plant.shortfallPolicy = .retryOnce ∧
        supplyShort.slotA.retryUsed = false) ∧
      (let s := supplyShort.setSlot .a { supplyShort.slotA with retryUsed := true }
       (s.slot .a).retryUsed = true ∧ (s.slot .a).shortfall.isSome = true) :=
  ⟨small_states_agree.2.2.2.2.2.2.2.2.2.2.2.2.1, by decide +kernel, by decide +kernel⟩

theorem witness_ResettleAsksAgain :
    resettling.SupplyAgrees ∧ resettling.inReset = false ∧ resettling.slotA.resettle.isSome = true ∧
      resettling.slotA.step.kind.needs = some .water :=
  ⟨small_states_agree.2.2.2.2.2.2.2.2.2.2.1, by decide +kernel⟩

theorem witness_GrantIsWhole :
    let s := { waiting with arbiter := { waiting.arbiter with basinFull := false } }
    s.inReset = false ∧ s.arbiter.requests = [] ++ ⟨.a, 1, .water⟩ :: [] ∧
      s.arbiter.grantable .water = true ∧ (s.slot .a).step.kind.isWater = true := by decide +kernel

/-! #### The supply monitor -/

theorem witness_SampleIsTaken :
    manned.inReset = false ∧ (goodReading 0 = false ∧ goodReading 4095 = false ∧
        goodReading 1 = true ∧ goodReading 4094 = true) ∧
      (manned.monitor.channel .tank).fault = false ∧
      ((manned.setChannel .tank { manned.monitor.tank with fault := true }).monitor.channel .tank).fault =
        true ∧
      (manned.monitor.channel .tank).windowCount + 1 < 2 ^ (manned.plant.channelCfg .tank).exponent ∧
      (running 3 1).arbiter.waterHolder = some .a := by decide +kernel

/-- A state in which the next good sample completes the window of a channel, as one that gives 15 times
`v` and one more. -/
def filling (c : Channel) (v : Nat) (s : State) : State :=
  s.setChannel c { s.monitor.channel c with windowCount := 15, windowSum := 15 * v }

/-- A channel in signal fault. -/
def faulted (c : Channel) (s : State) : State :=
  s.setChannel c { s.monitor.channel c with fault := true }

/-- Slot A waits for water that the signal fault of FLOW alone holds back. -/
def faultHeld : State :=
  { faulted .flow waiting with
    arbiter := { waiting.arbiter with basinFull := false, flowFault := true } }

theorem faultHeld_agrees : faultHeld.SupplyAgrees := by
  refine agreed (by decide +kernel) (every_slot ?_)
  unfold Slot.TimersInState State.GrantsInRun State.RequestInWait
  repeat' with_reducible apply And.intro
  all_goals decide +kernel

/-- R128: the volume of the sample that ends the fault goes to slot A where the grant is taken first, and to
unattributed where the credit is; 2000 × 2500 / 4095 is 1221. -/
theorem test_endFault_credits_in_either_order :
    let grantFirst := (faultHeld.handFault .flow false).scaleAndCredit .flow 2000
    let creditFirst := (faultHeld.scaleAndCredit .flow 2000).handFault .flow false
    (grantFirst.slotA.delivered, grantFirst.monitor.unattributed, grantFirst.monitor.waterView) =
        (1221, 0, some .a) ∧
      (creditFirst.slotA.delivered, creditFirst.monitor.unattributed,
        creditFirst.monitor.waterView) = (0, 1221, some .a) := by
  decide +kernel

/-- R94, R112: a TANK sample that ends the fault and brings TANK_LOW lets slot A have the water and aborts it, or
bars the water first. A reading of 200 scales below 300. -/
theorem test_endFault_meets_tankLow_in_either_order :
    let q := { site with tankCfg := { site.tankCfg with exponent := 0 } }
    let s := under q
      { waiting with arbiter := { waiting.arbiter with basinFull := false, tankFault := true } }
    let exitFirst := (s.handFault .tank false).goodSample .tank 200
    let sampleFirst := (s.goodSample .tank 200).handFault .tank false
    (exitFirst.slotA.state, (exitFirst.filter 7).lastCause) = (.idle, .tankLow) ∧
      (sampleFirst.slotA.state, sampleFirst.arbiter.tankLow, sampleFirst.arbiter.tankFault) =
        (.waitSupply, true, false) := by
  decide +kernel

theorem witness_FlowIsTotalledOnce :
    manned.monitor.totalRemainder < 10 ∧ manned.monitor.flow.fault = false ∧
      manned.monitor.waterView = none ∧ (running 3 1).monitor.waterView = some .a ∧
      (running 3 1).SupplyAgrees ∧
      (∀ reading, goodReading reading = true →
        Instr.minuteEvent ≠ .channelSample .flow reading ∧
          Instr.minuteEvent ≠ .windowCompletion .flow reading) ∧
      2 ^ (filling .flow 9 manned).plant.flowCfg.exponent ≤
        (filling .flow 9 manned).monitor.flow.windowCount + 1 ∧
      (faulted .flow (running 3 1)).SupplyAgrees ∧ (faulted .flow manned).SupplyAgrees ∧
      (faulted .flow (running 3 1)).monitor.flow.fault = true ∧
      (faultHeld.SupplyAgrees ∧ faultHeld.monitor.flow.fault = true ∧
        faultHeld.monitor.waterView = none) := by
  refine ⟨by decide +kernel, by decide +kernel, by decide +kernel, by decide +kernel,
    small_states_agree.2.2.2.2.2.2.2.1, fun _ _ => ⟨nofun, nofun⟩, by decide +kernel,
    small_states_agree.2.2.2.2.2.2.2.1, small_states_agree.1, by decide +kernel,
    faultHeld_agrees, by decide +kernel⟩

/-- A reading of 246 scales to 300 at the tank: TANK_LOW holds at 300 and not at 301. -/
theorem witness_WindowIsCompleted :
    ((filling .tank 300 manned).inReset = false ∧ goodReading 246 = true ∧
      ((filling .tank 300 manned).monitor.channel .tank).fault = false ∧
      2 ^ (site.channelCfg .tank).exponent ≤
        ((filling .tank 300 manned).monitor.channel .tank).windowCount + 1) ∧
    (manned.monitor.tank.average = none ∧
      (let s := manned.setChannel .tank { manned.monitor.tank with average := some 1 }
       (filling .basin 0 s).monitor.tank.average.isSome = true)) ∧
    ((filling .flow 0 (running 3 1)).monitor.waterView = some .a ∧
      (filling .flow 0 (running 3 1)).arbiter.flowFault = false ∧
      (running 3 1).SupplyAgrees) ∧
    (let s := faulted .tank (under { site with tankCfg := ⟨0, 0, 5000⟩ } manned)
     (s.monitor.channel .tank).fault = true ∧
       2 ^ (s.plant.channelCfg .tank).exponent ≤ (s.monitor.channel .tank).windowCount + 1) :=
  ⟨by decide +kernel, by decide +kernel,
    ⟨by decide +kernel, by decide +kernel, small_states_agree.2.2.2.2.2.2.2.1⟩, by decide +kernel⟩

/-- Slot A runs with the water at a tank average of 900, and a commit that raises tank low-low to 900 is in
progress. -/
def lowered : State :=
  let s := (running 3 1).setChannel .tank { (running 3 1).monitor.tank with average := some 900 }
  { s with
    store := { s.store with commit := some (.plant { site with tankLowLow := 900 }, .p3) }
    queue := { s.queue with plantCommitting := true } }

/-- R101, R112, R130: what a commit re-evaluates of the tank aborts the wash once the new page is in force. -/
theorem test_commitTank_tankLow_aborts :
    let t := (under { site with tankLowLow := 900 } lowered).commitTank
    (t.slotA.state, (t.filter 7).lastCause, t.arbiter.tankLow) = (.idle, .tankLow, true) := by
  decide +kernel

theorem witness_TankLowAbortsTheHolder :
    let s := filling .tank 300 (running 3 1)
    s.SupplyAgrees ∧ (s.inReset = false ∧ goodReading 246 = true ∧ s.monitor.tank.fault = false ∧
      2 ^ s.plant.tankCfg.exponent ≤ s.monitor.tank.windowCount + 1 ∧ s.monitor.tankLow = false ∧
      s.arbiter.waterHolder = some .a ∧ s.slotA.filter = some 7 ∧
      (s.monitor.tank.windowSum +
          min 9999 ((246#12).toNat * s.plant.tankCfg.span / 4095 + s.plant.tankCfg.zero)) /
        2 ^ s.plant.tankCfg.exponent ≤ s.plant.tankLowLow) ∧
    (let u := faulted .tank (under { site with tankCfg := ⟨0, 0, 5000⟩ } (running 3 1))
     u.SupplyAgrees ∧ goodReading 246 = true ∧ u.monitor.tank.fault = true ∧
       2 ^ u.plant.tankCfg.exponent ≤ u.monitor.tank.windowCount + 1 ∧
       u.arbiter.waterHolder = some .a ∧
       (u.monitor.tank.windowSum +
           min 9999 ((246#12).toNat * u.plant.tankCfg.span / 4095 + u.plant.tankCfg.zero)) /
         2 ^ u.plant.tankCfg.exponent ≤ u.plant.tankLowLow) ∧
    (lowered.SupplyAgrees ∧ lowered.inReset = false ∧ lowered.monitor.tankLow = false ∧
      lowered.arbiter.waterHolder = some .a ∧ lowered.slotA.filter = some 7 ∧
      lowered.store.commit = some (.plant { site with tankLowLow := 900 }, .p3) ∧
      lowered.monitor.tank.fault = false ∧ lowered.monitor.tank.average = some 900) :=
  ⟨small_states_agree.2.2.2.2.2.2.2.1, by decide +kernel,
    ⟨small_states_agree.2.2.2.2.2.2.2.1, by decide +kernel⟩,
    small_states_agree.2.2.2.2.2.2.2.1, by decide +kernel⟩

/-! #### The supervisor's requests -/

theorem witness_SupervisorSettingsAreTaken :
    (asks .p3 .setClass [3] manned).Passes .p3 .setClass (req .setClass [3]) ∧
      (asks .p3 .setClass [2] manned).Passes .p3 .setClass (req .setClass [2]) ∧
      ((asks .p3 .setClass [0] manned).Passes .p3 .setClass (req .setClass [0]) ∧
        manned.filters.rawClass = .normal) ∧
      (asks .p3 .setPause [2] manned).Passes .p3 .setPause (req .setPause [2]) ∧
      (asks .p3 .setPause [0] manned).Passes .p3 .setPause (req .setPause [0]) ∧
      ((asks .p3 .setPause [1] manned).Passes .p3 .setPause (req .setPause [1]) ∧
        manned.admission.paused = false) ∧
      (asks .p3 .peakReset [] manned).Passes .p3 .peakReset (req .peakReset []) ∧
      (asks .p3 .clockSet [0xFF, 0xFF, 0xFF, 0xFF] manned).Passes .p3 .clockSet
        (req .clockSet [0xFF, 0xFF, 0xFF, 0xFF]) :=
  ⟨asked (by decide +kernel), asked (by decide +kernel), ⟨asked (by decide +kernel), by decide +kernel⟩,
    asked (by decide +kernel), asked (by decide +kernel), ⟨asked (by decide +kernel), by decide +kernel⟩,
    asked (by decide +kernel), asked (by decide +kernel)⟩

theorem witness_StatusIsCleared :
    ((asks .p1 .clearStatus [0, 0] manned).Hears .p1 .clearStatus (req .clearStatus [0, 0]) ∧
      (manned.port .p1).role = some .gallery) ∧
      (asks .p3 .clearStatus [3, 255] manned).Passes .p3 .clearStatus (req .clearStatus [3, 255]) :=
  ⟨⟨heard (by decide +kernel), by decide +kernel⟩, asked (by decide +kernel)⟩

/-! #### The page store -/

/-- P3 edits programme page 3. -/
def editing : State :=
  let s := told .p3 .editOpen [3] manned
  s.setPort .p3 { s.port .p3 with outbound := [] }

/-- What P3 has staged. -/
def editedPage : Staged := .programme 3 6 (stagedSteps factoryProgramme)

theorem edited_page_in_range : editedPage.InRange := by
  unfold editedPage Staged.InRange StepRec.Staged
  decide +kernel

/-- Nine repeats are in the range of no field of a step. -/
theorem nine_repeats_refused (y : Staged) : ¬ Staged.WritesAll [⟨5, 0, 9⟩] editedPage y := by
  intro h
  cases h with
  | next _ _ _ _ _ h _ =>
    cases h with
    | step _ _ _ _ _ _ _ _ _ _ h =>
      cases h with
      | repeats _ _ _ h => exact absurd h (by decide)

theorem witness_EditsAreTaken :
    ((asks .p3 .editOpen [9] manned).Passes .p3 .editOpen (req .editOpen [9]) ∧
      ((asks .p3 .editOpen [8] committingPlant).Passes .p3 .editOpen (req .editOpen [8]) ∧
        committingPlant.store.commit.isSome = true) ∧
      (let s := { manned with store := { manned.store with latch := some .p2 } }
       (asks .p3 .editOpen [0] s).Passes .p3 .editOpen (req .editOpen [0]) ∧
         s.store.latch = some .p2) ∧
      ((asks .p3 .editOpen [7] manned).Passes .p3 .editOpen (req .editOpen [7]) ∧
        manned.store.latch = none ∧ manned.store.commit = none) ∧
      (asks .p3 .editOpen [8] editing).Passes .p3 .editOpen (req .editOpen [8]) ∧
      editing.store.latch = some .p3) ∧
    ((asks .p3 .editWrite [5, 0, 0, 8] manned).Passes .p3 .editWrite (req .editWrite [5, 0, 0, 8]) ∧
      ((asks .p3 .editWrite [5, 0, 0, 8] editing).Passes .p3 .editWrite
          (req .editWrite [5, 0, 0, 8]) ∧
        (editing.store.staging.bind (Staged.writeAll (editItems [5, 0, 0, 8]))).isSome = true) ∧
      ((asks .p3 .editWrite [5, 0, 0, 9] editing).Passes .p3 .editWrite
          (req .editWrite [5, 0, 0, 9]) ∧
        (editing.store.staging.bind (Staged.writeAll (editItems [5, 0, 0, 9]))).isSome = false)) ∧
    (editedPage.InRange ∧ editing.store.staging = some editedPage ∧
      Staged.WritesAll [⟨5, 0, 8⟩] editedPage
        (.programme 3 6 ((stagedSteps factoryProgramme).set 0 ⟨.drain, 300, 0, 8, 0, 0⟩)) ∧
      (∀ y, ¬ Staged.WritesAll [⟨5, 0, 9⟩] editedPage y) ∧
      [5, 0, 0, 8] = [(⟨5, 0, 8⟩ : EditItem)].flatMap
        (fun it => u8 it.ident ++ u8 it.index ++ u16 it.value)) ∧
    ((asks .p3 .editClose [] manned).Passes .p3 .editClose (req .editClose []) ∧
      (asks .p3 .editClose [] editing).Passes .p3 .editClose (req .editClose [])) :=
  ⟨⟨asked (by decide +kernel), ⟨asked (by decide +kernel), by decide +kernel⟩,
      ⟨asked (by decide +kernel), by decide +kernel⟩, ⟨asked (by decide +kernel), by decide +kernel⟩,
      asked (by decide +kernel), by decide +kernel⟩,
    ⟨asked (by decide +kernel), ⟨asked (by decide +kernel), by decide +kernel⟩,
      asked (by decide +kernel), by decide +kernel⟩,
    ⟨edited_page_in_range, by decide +kernel,
      .next _ _ _ _ _ (.step 3 6 0 5 8 _ _ _ (by decide) rfl (.repeats _ 8 (by decide) (by decide)))
        (.done _),
      nine_repeats_refused, by decide +kernel⟩,
    asked (by decide +kernel), asked (by decide +kernel)⟩

/-- P3 has staged a plant page. -/
def stagedPlant (q : PlantPage) : State :=
  { manned with store := { manned.store with latch := some .p3, staging := some (.plant q) } }

/-- P3 has staged a programme page, under a lock mask. -/
def stagedSteps (mask : BitVec 8) (count : Nat) (steps : List StepRec) : State :=
  let s := mannedOn { site with lockMask := mask }
  { s with
    store := { s.store with latch := some .p3, staging := some (.programme 7 count steps) } }

theorem witness_CommitIsStarted :
    ((asks .p3 .commit [] committingPlant).Passes .p3 .commit (req .commit []) ∧
      committingPlant.store.commit.isSome = true) ∧
    ((asks .p3 .commit [] manned).Passes .p3 .commit (req .commit []) ∧
      manned.store.commit = none ∧ manned.store.latch ≠ some .p3) ∧
    ((asks .p3 .commit [] (stagedPlant site)).Passes .p3 .commit (req .commit []) ∧
      site.thresholdElevated ≤ site.thresholdNormal ∧ site.thresholdFlood ≤ site.thresholdElevated ∧
      site.tankLowLow < site.reserveLevel ∧ site.refillOn < site.refillOff) ∧
    (let q := { site with tankLowLow := 600 }
     (asks .p3 .commit [] (stagedPlant q)).Passes .p3 .commit (req .commit []) ∧
       ¬ q.tankLowLow < q.reserveLevel) ∧
    ((asks .p3 .commit [] (stagedSteps 0x80 6 factoryProgramme)).Passes .p3 .commit (req .commit []) ∧
      (stagedSteps 0x80 6 factoryProgramme).plant.lockMask.getLsbD 7 = true) ∧
    ((asks .p3 .commit [] (stagedSteps 0x7F 6 factoryProgramme)).Passes .p3 .commit (req .commit []) ∧
      (stagedSteps 0x7F 6 factoryProgramme).plant.lockMask.getLsbD 7 = false ∧
      ProgrammeSound (factoryProgramme.take 6)) ∧
    ((asks .p3 .commit [] (stagedSteps 0 1 (factoryProgramme ++ factoryProgramme))).Passes .p3 .commit
        (req .commit []) ∧
      ¬ ProgrammeSound ((factoryProgramme ++ factoryProgramme).take 1) ∧
      (Staged.programme 7 1 (factoryProgramme ++ factoryProgramme)).InRange) := by
  refine ⟨⟨asked (by decide +kernel), by decide +kernel⟩, ⟨asked (by decide +kernel), by decide +kernel⟩,
    ⟨asked (by decide +kernel), by decide +kernel⟩, ⟨asked (by decide +kernel), by decide +kernel⟩,
    ⟨asked (by decide +kernel), by decide +kernel⟩,
    ⟨asked (by decide +kernel), by decide +kernel, factory_programme_sound⟩,
    asked (by decide +kernel), ?_, ?_⟩
  · unfold ProgrammeSound StepRec.InRange
    decide +kernel
  · unfold Staged.InRange StepRec.Staged
    decide +kernel

theorem witness_CommitIsCompleted :
    committing3.inReset = false ∧ committing3.store.commit.map (fun x => x.1.page) =
        some (.programme 3) ∧ (committing3.port .p3).role.isSome = true ∧
      committingPlant.store.commit = some (.plant site, .p3) ∧
      (committing3.setPort .p3 PortRec.atReset).store.commit.isSome = true ∧
      ((committing3.setPort .p3 PortRec.atReset).port .p3).role = none := by decide +kernel

/-- The plant page commit that takes filter 7 out, from a state with given fault items. -/
theorem witness_PlantPageTakesForce :
    committingPlant.SupplyAgrees ∧ committingPlant.inReset = false ∧
      committingPlant.store.commit = some (.plant site, .p3) ∧
      ((vacant.filter 7).state = .absent ∧ (site.filters[7]).present = true) ∧
      ((serving.filter 7).state = .service ∧ (PlantPage.factory.filters[7]).present = false) ∧
      (manned.plant.channelCfg .tank = site.channelCfg .tank ∧
        manned.plant.channelCfg .tank ≠ ({ site with tankCfg := ⟨2, 0, 5000⟩ } : PlantPage).channelCfg .tank) ∧
      (manned.monitor.tank.fault = false ∧ (faulted .tank manned).monitor.tank.fault = true ∧
        manned.monitor.basin.fault = false ∧ (faulted .basin manned).monitor.basin.fault = true) ∧
      ((settingUp 0).slotA.state ≠ .idle ∧ (settingUp 0).slotA.filter = some 7) ∧
      ((serving.filter 7).state = .service ∧ (site.filters[7]).present = true) :=
  ⟨small_states_agree.1, by decide +kernel⟩

/-! #### What every step keeps -/

theorem manned_store_sound : manned.store.Sound := by
  refine ⟨?_, fun _ => site_sound, ?_, ?_⟩
  · intro g _
    have h : (manned.store.programmes[g]).steps = factoryProgramme := by
      revert g; decide +kernel
    exact h ▸ factory_programme_sound
  · intro x hx; cases hx
  · intro x hx; cases hx

/-- Agreeing states whose step answers a next state: a step timer expires, or a second passes. -/
theorem witness_SupplyStaysInAgreement :
    (running 3 1).SupplyAgrees ∧ (∃ t, step (running 3 1) = .next t) ∧
      (∃ t, step { running 3 1 with pending := [.stepTimerExpiry .a] } = .next t) ∧
      (running 3 1).store.Sound ∧ (running 3 1).DemandsBounded := by
  refine ⟨small_states_agree.2.2.2.2.2.2.2.1, ⟨_, rfl⟩, ⟨_, rfl⟩, manned_store_sound, ?_, ?_⟩
  · exact every_slot (by decide +kernel)
  · exact every_slot (by decide +kernel)

theorem witness_QueueStaysOrdered :
    fourQueued.queue.Ordered ∧ fourQueued.WashesAgree ∧ fourQueued.QueuedFilters := by
  refine ⟨queues_ordered.2.1, small_states_agree.1.2.1, ?_⟩
  unfold State.QueuedFilters
  decide +kernel

theorem witness_StandingsStayCurrent :
    queued.store.Sound ∧ queued.SupplyAgrees ∧ queued.queue.Ordered ∧ queued.StandingsCurrent ∧
      queued.queue.FollowsViews := by
  refine ⟨manned_store_sound, small_states_agree.2.1, queues_ordered.1, ?_, ?_⟩
  · unfold State.StandingsCurrent FilterRec.FractionsCurrent
    decide +kernel
  · unfold WashQueue.FollowsViews
    decide +kernel

theorem witness_RotationStaysCurrent :
    serving.ServiceCounted ∧ queued.CandidateCurrent ∧ queued.ConditionsCurrent := by
  refine ⟨?_, queued_current, ?_⟩
  · unfold State.ServiceCounted
    decide +kernel
  · unfold State.ConditionsCurrent
    decide +kernel

/-- What holds of every port. -/
theorem every_port {P : Port → Prop} (h : P .p0 ∧ P .p1 ∧ P .p2 ∧ P .p3) : ∀ p, P p
  | .p0 => h.1
  | .p1 => h.2.1
  | .p2 => h.2.2.1
  | .p3 => h.2.2.2

theorem witness_LinkAndJournalStayInBounds :
    wrapped.journal.Consecutive ∧ wrapped.PortsFit ∧ editing.LatchSupervised ∧ manned.PortsApart := by
  refine ⟨?_, every_port ?_, ⟨?_, by decide +kernel⟩, every_port ?_, ?_, by decide +kernel⟩
  · unfold Journal.Consecutive
    decide +kernel
  · decide +kernel
  · exact every_port (by decide +kernel)
  · decide +kernel
  · intro p q b c hpq hb hc
    cases p <;> cases q <;> 
      first
        | exact absurd rfl hpq
        | exact absurd (Option.isSome_of_eq_some hb) (by decide +kernel)
        | exact absurd (Option.isSome_of_eq_some hc) (by decide +kernel)

theorem witness_PagesStaySound :
    committing3.PageStatusCurrent ∧ manned.store.Sound ∧ (running 3 2).PageStatusCurrent ∧
      (running 3 2).store.Sound ∧ (running 3 1).SupplyAgrees ∧ ∀ i, ((running 3 1).slot i).CopySound := by
  refine ⟨?_, manned_store_sound, ?_, manned_store_sound, small_states_agree.2.2.2.2.2.2.2.1, ?_⟩
  · unfold State.PageStatusCurrent
    decide +kernel
  · unfold State.PageStatusCurrent
    decide +kernel
  · have h : ((running 3 1).slot .a).programme = factoryProgramme := by decide +kernel
    refine every_slot ⟨fun _ => ⟨h ▸ factory_programme_sound, by decide +kernel⟩, fun h => ?_⟩
    exact absurd rfl h

theorem witness_AlertsFollowTheFlags :
    (manned.latchFlag .supplyShort).AlertsFollow ∧ (queued.setLive .basinFull true).AlertsFollow ∧
      manned.LiveCopies ∧ manned.inReset = false := by
  refine ⟨?_, ?_, ?_, by decide +kernel⟩
  · unfold State.AlertsFollow
    decide +kernel
  · unfold State.AlertsFollow
    decide +kernel
  · unfold State.LiveCopies
    decide +kernel

end Sys2Proof.Tests
end

/-! PROOFS. The place of every wash, and what the inner blocks leave alone. -/

namespace Sys2Proof.Machine

/-! ### What the inner blocks leave alone -/

/-- Two queues with the same covered set and the same page status (R39). -/
structure WashQueue.SamePages (q r : WashQueue) : Prop where
  covered : r.covered = q.covered
  pageStatus : r.pageStatus = q.pageStatus
  plantCommitting : r.plantCommitting = q.plantCommitting

theorem WashQueue.SamePages.refl (q : WashQueue) : q.SamePages q := ⟨rfl, rfl, rfl⟩

theorem WashQueue.SamePages.trans {q r u : WashQueue} (h : q.SamePages r) (k : r.SamePages u) :
    q.SamePages u :=
  ⟨k.covered.trans h.covered, k.pageStatus.trans h.pageStatus,
    k.plantCommitting.trans h.plantCommitting⟩

theorem WashQueue.takeNotice_samePages (minute : Count32) (f : FilterNo) (standing : Standing)
    (urgency : Nat) (q : WashQueue) : q.SamePages (q.takeNotice minute f standing urgency) := by
  obtain ⟨es, n, m, v, h⟩ := q.takeNotice_shape minute f standing urgency
  rw [h]
  exact ⟨rfl, rfl, rfl⟩

theorem WashQueue.takeRequested_samePages (minute : Count32) (f : FilterNo) (p : Port)
    (q : WashQueue) : q.SamePages (q.takeRequested minute f p) := by
  unfold WashQueue.takeRequested
  split
  · exact ⟨rfl, rfl, rfl⟩
  · split <;> exact ⟨rfl, rfl, rfl⟩

theorem WashQueue.takeForce_samePages (minute : Count32) (f : FilterNo) (p : Port)
    (q : WashQueue) : q.SamePages (q.takeForce minute f p) := by
  unfold WashQueue.takeForce
  split
  · exact ⟨rfl, rfl, rfl⟩
  · split <;> exact ⟨rfl, rfl, rfl⟩

theorem WashQueue.takeBack_samePages (f : FilterNo) (e : Entry) (q : WashQueue) :
    q.SamePages (q.takeBack f e) := by
  unfold WashQueue.takeBack
  split <;> exact ⟨rfl, rfl, rfl⟩

/-- What an operation of the inner blocks leaves alone: the ports, the Page Store, the covered set and the
page status; the journal may grow by records in sequence (R145). -/
structure OuterKept (s t : State) : Prop where
  ports : t.ports = s.ports
  store : t.store = s.store
  pages : s.queue.SamePages t.queue
  journal : s.journal.Consecutive → t.journal.Consecutive

theorem OuterKept.refl (s : State) : OuterKept s s := ⟨rfl, rfl, .refl _, id⟩

theorem OuterKept.trans {s t u : State} (h : OuterKept s t) (k : OuterKept t u) : OuterKept s u :=
  ⟨k.ports.trans h.ports, k.store.trans h.store, h.pages.trans k.pages, k.journal ∘ h.journal⟩

/-! ### The washes in place -/

/-- A slot is IDLE exactly without a filter; the programme copy of an active one is sound, with its position
in it and between `least` and all of the step's repeats left; the timers of RUN and RESETTLE run there alone
(R64, R66, R68; Table 4-4). -/
structure Slot.Placed (least : Nat) (x : Slot) : Prop where
  idle : x.state = .idle ↔ x.filter = none
  copy : x.state ≠ .idle → ProgrammeSound x.programme ∧ x.stepIndex < x.programme.length ∧
    least ≤ x.repeatsLeft ∧ x.repeatsLeft ≤ x.step.repeats
  running : x.stepTimer.isSome = true ∨ x.shortfall.isSome = true ∨ x.clearHold ≠ .stopped →
    x.state = .run
  resettling : x.resettle.isSome = true → x.state = .resettle

/-- Every slot is in place, a request waits for slots in WAIT_SUPPLY alone, the active count is that of the
slots, and a USABLE page is VALID (R39, R48, R66, R91). Within the end of a repeat one slot, `open_`, may have
no repeats left (R77). -/
structure State.WashesPlaced (open_ : Option SlotId) (s : State) : Prop where
  slots : ∀ i, (s.slot i).Placed (if open_ = some i then 0 else 1)
  requests : ∀ r ∈ s.arbiter.requests, (s.slot r.slot).state = .waitSupply
  count : s.admission.activeCount = s.activeSlots
  usable : ∀ g : Fin 8, s.queue.pageStatus[g] = .usable → (s.store.programmes[g]).valid = true

theorem Slot.Placed.active {n : Nat} {x : Slot} (h : x.Placed n) : x.state ≠ .idle ↔ x.filter ≠ none :=
  not_congr h.idle

/-- Slots that differ in nothing their place speaks of. -/
theorem Slot.Placed.congr {n : Nat} {x y : Slot} (h : x.Placed n) (state : y.state = x.state)
    (filter : y.filter = x.filter) (programme : y.programme = x.programme)
    (stepIndex : y.stepIndex = x.stepIndex) (repeatsLeft : y.repeatsLeft = x.repeatsLeft)
    (running : y.stepTimer.isSome = true ∨ y.shortfall.isSome = true ∨ y.clearHold ≠ .stopped →
      x.state = .run)
    (resettling : y.resettle.isSome = true → x.resettle.isSome = true) : y.Placed n := by
  have step : y.step = x.step := by rw [Slot.step, Slot.step, programme, stepIndex]
  refine ⟨by rw [state, filter]; exact h.idle, ?_, fun k => state.trans (running k),
    fun k => state.trans (h.resettling (resettling k))⟩
  rw [state, programme, stepIndex, repeatsLeft, step]
  exact h.copy

/-- What a slot adds to the count of active slots (R48). -/
def Slot.activity (x : Slot) : Nat := if x.state = .idle then 0 else 1

theorem Slot.activity_congr {x y : Slot} (h : x.state = .idle ↔ y.state = .idle) :
    x.activity = y.activity := by simp only [Slot.activity, h]

theorem State.activeSlots_eq (s : State) : s.activeSlots = s.slotA.activity + s.slotB.activity := rfl

theorem State.activeSlots_setSlot (s : State) (i : SlotId) (x : Slot) :
    (s.setSlot i x).activeSlots + (s.slot i).activity = s.activeSlots + x.activity := by
  cases i <;> simp only [State.activeSlots_eq, State.setSlot, State.slot] <;> omega

/-- Washes stay in place where no slot leaves its state and no request is added. -/
theorem State.WashesPlaced.mono {o : Option SlotId} {s t : State} (h : s.WashesPlaced o)
    (slots : ∀ i n, (s.slot i).Placed n → (t.slot i).Placed n)
    (states : ∀ i, (t.slot i).state = (s.slot i).state)
    (requests : ∀ r ∈ t.arbiter.requests, r ∈ s.arbiter.requests)
    (count : t.admission.activeCount = s.admission.activeCount)
    (status : t.queue.pageStatus = s.queue.pageStatus)
    (programmes : t.store.programmes = s.store.programmes) : t.WashesPlaced o where
  slots i := slots i _ (h.slots i)
  requests r hr := (states _).trans (h.requests r (requests r hr))
  count := by
    have same : ∀ i, (t.slot i).activity = (s.slot i).activity :=
      fun i => Slot.activity_congr (by rw [states i])
    have ha : t.slotA.activity = s.slotA.activity := same .a
    have hb : t.slotB.activity = s.slotB.activity := same .b
    rw [count, h.count, State.activeSlots_eq, State.activeSlots_eq, ha, hb]
  usable g := by
    rw [status, programmes]
    exact h.usable g

/-- Washes stay in place where no slot changes, no request is added and every USABLE page is VALID. -/
theorem State.WashesPlaced.congr {o : Option SlotId} {s t : State} (h : s.WashesPlaced o)
    (slotA : t.slotA = s.slotA) (slotB : t.slotB = s.slotB)
    (requests : ∀ r ∈ t.arbiter.requests, r ∈ s.arbiter.requests)
    (count : t.admission.activeCount = s.admission.activeCount)
    (usable : ∀ g : Fin 8, t.queue.pageStatus[g] = .usable → (t.store.programmes[g]).valid = true) :
    t.WashesPlaced o := by
  have slots : ∀ i, t.slot i = s.slot i
    | .a => slotA
    | .b => slotB
  refine ⟨fun i => ?_, fun r hr => ?_, ?_, usable⟩
  · rw [slots i]
    exact h.slots i
  · rw [slots r.slot]
    exact h.requests r (requests r hr)
  · rw [count, h.count, State.activeSlots_eq, State.activeSlots_eq, slotA, slotB]

/-- A place with fewer repeats asked for. -/
theorem Slot.Placed.weaken {m n : Nat} {x : Slot} (h : x.Placed n) (le : m ≤ n) : x.Placed m where
  idle := h.idle
  copy a := by
    obtain ⟨sound, position, least, most⟩ := h.copy a
    exact ⟨sound, position, le.trans least, most⟩
  running := h.running
  resettling := h.resettling

/-- A slot is replaced by one in place, and the Admission Unit counts the active slots anew. -/
theorem State.WashesPlaced.setSlotCounted {o o' : Option SlotId} {s : State} (h : s.WashesPlaced o)
    (i : SlotId) (x : Slot) (u : AdmissionUnit) (placed : x.Placed (if o' = some i then 0 else 1))
    (others : ∀ j, j ≠ i → o = some j → o' = some j)
    (requests : ∀ r ∈ s.arbiter.requests, r.slot = i → x.state = .waitSupply)
    (count : u.activeCount = (s.setSlot i x).activeSlots) :
    State.WashesPlaced o' { s.setSlot i x with admission := u } := by
  have slots : ∀ j, State.slot { s.setSlot i x with admission := u } j = (s.setSlot i x).slot j :=
    fun j => by cases j <;> rfl
  refine ⟨fun j => ?_, fun r hr => ?_, count, fun g => ?_⟩
  · rw [slots]
    by_cases hj : j = i
    · subst hj
      rwa [State.slot_setSlot_self]
    · rw [State.slot_setSlot_other _ _ _ _ hj]
      refine (h.slots j).weaken ?_
      by_cases k : o = some j
      · rw [if_pos (others j hj k)]
        exact Nat.zero_le _
      · rw [if_neg k]
        split <;> omega
  · rw [slots]
    have hr : r ∈ s.arbiter.requests := by simpa using hr
    by_cases hj : r.slot = i
    · rw [hj, State.slot_setSlot_self]
      exact requests r hr hj
    · rw [State.slot_setSlot_other _ _ _ _ hj]
      exact h.requests r hr
  · simpa using h.usable g

/-- A slot is replaced by one in place that is active exactly if it was. -/
theorem State.WashesPlaced.setSlot {o o' : Option SlotId} {s : State} (h : s.WashesPlaced o) (i : SlotId)
    (x : Slot) (placed : x.Placed (if o' = some i then 0 else 1))
    (others : ∀ j, j ≠ i → o = some j → o' = some j)
    (active : x.state = .idle ↔ (s.slot i).state = .idle)
    (requests : ∀ r ∈ s.arbiter.requests, r.slot = i → x.state = .waitSupply) :
    (s.setSlot i x).WashesPlaced o' := by
  have counted : s.admission.activeCount = (s.setSlot i x).activeSlots := by
    have k := s.activeSlots_setSlot i x
    rw [Slot.activity_congr active] at k
    rw [h.count]
    omega
  have k := h.setSlotCounted i x (s.setSlot i x).admission placed others requests (by simpa using counted)
  exact k

end Sys2Proof.Machine

/-! PROOFS. Moves of the inner blocks: the Filter Table, the Status and Alert Unit, the Wash Queue and the grants. -/

namespace Sys2Proof.Machine

/-! ### Moves of the inner blocks -/

/-- A move of the inner blocks: what they leave alone is kept, and so is the place of every wash. -/
structure InnerMove (s t : State) : Prop extends OuterKept s t where
  washes : s.store.Sound → s.WashesPlaced none → t.WashesPlaced none

theorem InnerMove.refl (s : State) : InnerMove s s := ⟨.refl s, fun _ => id⟩

theorem InnerMove.trans {s t u : State} (h : InnerMove s t) (k : InnerMove t u) : InnerMove s u :=
  ⟨h.toOuterKept.trans k.toOuterKept, fun p w => k.washes (h.store.symm ▸ p) (h.washes p w)⟩

/-- The parts of the state on which the inner blocks' agreements stand. -/
def State.innerParts (s : State) :=
  (s.ports, s.store, s.queue.covered, s.queue.pageStatus, s.queue.plantCommitting, s.journal, s.slotA,
    s.slotB, s.arbiter.requests, s.admission.activeCount)

theorem InnerMove.of_parts {s t : State} (h : t.innerParts = s.innerParts) : InnerMove s t := by
  simp only [State.innerParts, Prod.mk.injEq] at h
  obtain ⟨ports, store, covered, status, plant, journal, slotA, slotB, requests, count⟩ := h
  refine ⟨⟨ports, store, ⟨covered, status, plant⟩, fun k => journal ▸ k⟩, fun _ w => ?_⟩
  refine w.congr slotA slotB (fun r hr => requests ▸ hr) count fun g => ?_
  rw [status, store]
  exact w.usable g

theorem InnerMove.of_queue (s : State) {q : WashQueue} (h : s.queue.SamePages q) :
    InnerMove s { s with queue := q } :=
  .of_parts (by simp only [State.innerParts, h.covered, h.pageStatus, h.plantCommitting])

theorem OuterKept.setSlot (s : State) (i : SlotId) (x : Slot) : OuterKept s (s.setSlot i x) := by
  obtain ⟨y, z, h⟩ := State.setSlot_shape i x s
  rw [h]
  exact ⟨rfl, rfl, .refl _, id⟩

/-- A slot is replaced by one that is in place where the old one was. -/
theorem InnerMove.setSlot (s : State) (i : SlotId) (x : Slot) (state : x.state = (s.slot i).state)
    (placed : ∀ n, (s.slot i).Placed n → x.Placed n) : InnerMove s (s.setSlot i x) := by
  refine ⟨.setSlot s i x, fun _ w => ?_⟩
  refine w.setSlot i x (placed _ (w.slots i)) (fun _ _ k => k) (by rw [state]) fun r hr hi => ?_
  rw [state, ← hi]
  exact w.requests r hr

theorem InnerMove.foldl {α : Type} (f : State → α → State) (l : List α) (s : State)
    (h : ∀ t a, InnerMove t (f t a)) : InnerMove s (l.foldl f s) := by
  induction l generalizing s with
  | nil => exact .refl s
  | cons a l ih => exact (h s a).trans (ih _)

theorem InnerMove.eitherOrder {f g : State → State} (s : State) (hf : ∀ t, InnerMove t (f t))
    (hg : ∀ t, InnerMove t (g t)) : InnerMove s (Machine.eitherOrder f g s) := by
  have chosen : InnerMove s s.chosen := .of_parts rfl
  obtain h | h := eitherOrder_cases f g s
  · rw [h]
    exact (chosen.trans (hf _)).trans (hg _)
  · rw [h]
    exact (chosen.trans (hg _)).trans (hf _)

/-! ### The Filter Table -/

theorem State.setFilter_inner (f : FilterNo) (r : FilterRec) (s : State) :
    InnerMove s (s.setFilter f r) := .of_parts rfl

theorem State.countTransition_inner (was now : FilterState) (s : State) :
    InnerMove s (s.countTransition was now) := by
  unfold State.countTransition
  repeat' split
  all_goals exact .of_parts rfl

theorem State.fileFilter_inner (f : FilterNo) (r : FilterRec) (s : State) :
    InnerMove s (s.fileFilter f r) := by
  obtain ⟨-, h⟩ | h := State.fileFilter_cases f r s
  · rw [h]
    exact .of_parts rfl
  · rw [h]
    exact (State.setFilter_inner f _ s).trans (.of_queue _ (WashQueue.takeNotice_samePages _ _ _ _ _))

/-- A signal that leaves its slot in its state and in place is a move. -/
theorem State.signalSlot_inner (f : FilterNo) (g : Slot → Slot) (s : State)
    (state : ∀ x, (g x).state = x.state) (placed : ∀ n (x : Slot), x.Placed n → (g x).Placed n) :
    InnerMove s (s.signalSlot f g) := by
  obtain ⟨-, h⟩ | ⟨i, -, h⟩ := State.signalSlot_cases f g s
  · rw [h]
    exact .refl s
  · rw [h]
    exact .setSlot s i _ (state _) fun n => placed n _

theorem ClearHold.onStale_stopped (h : ClearHold) (stale : Bool) :
    h.onStale stale = .stopped ↔ h = .stopped := by
  cases h <;> cases stale <;> simp [ClearHold.onStale]

theorem Slot.onStale_placed (stale : Bool) (n : Nat) (x : Slot) (h : x.Placed n) :
    (x.onStale stale).Placed n := by
  refine h.congr rfl rfl rfl rfl rfl (fun k => h.running ?_) id
  simpa only [Slot.onStale, ne_eq, ClearHold.onStale_stopped] using k

theorem Slot.onTurbidity_state (v : Nat) (x : Slot) : (x.onTurbidity v).state = x.state := by
  unfold Slot.onTurbidity
  split <;> rfl

theorem Slot.onTurbidity_placed (v n : Nat) (x : Slot) (h : x.Placed n) : (x.onTurbidity v).Placed n := by
  unfold Slot.onTurbidity
  split
  · next k => exact h.congr rfl rfl rfl rfl rfl (fun _ => k.1) id
  · exact h

theorem State.staleChanged_inner (f : FilterNo) (was now : Bool) (s : State) :
    InnerMove s (s.staleChanged f was now) := by
  unfold State.staleChanged
  split
  · exact .refl s
  · exact State.signalSlot_inner f _ s (fun _ => rfl) (Slot.onStale_placed now)

theorem State.modeChange_inner (f : FilterNo) (mode : FilterState) (minutes : Option Nat) (s : State) :
    InnerMove s (s.modeChange f mode minutes) :=
  (State.countTransition_inner _ _ s).trans (State.fileFilter_inner _ _ _)

theorem State.reportStanding_inner (f : FilterNo) (headloss turbidity : Option Nat) (s : State) :
    InnerMove s (s.reportStanding f headloss turbidity) := State.fileFilter_inner _ _ _

theorem State.reportWash_inner (f : FilterNo) (turbidity : Option Nat) (s : State) :
    InnerMove s (s.reportWash f turbidity) := by
  have aged := (State.setFilter_inner f { s.filter f with reportAge := 0, stale := false } s).trans
    (State.staleChanged_inner f (s.filter f).stale false _)
  cases turbidity with
  | none => exact aged
  | some v =>
    exact aged.trans (State.signalSlot_inner f _ _ (Slot.onTurbidity_state _) (Slot.onTurbidity_placed _))

theorem State.filterMinute_inner (f : FilterNo) (s : State) : InnerMove s (s.filterMinute f) := by
  unfold State.filterMinute
  extract_lets r aged
  split
  · exact .refl s
  · exact State.setFilter_inner _ _ _
  · exact State.fileFilter_inner _ _ _
  · exact (State.setFilter_inner f aged s).trans (State.staleChanged_inner _ _ _ _)

theorem State.filtersMinute_inner (s : State) : InnerMove s s.filtersMinute :=
  .foldl _ _ s fun t f => State.filterMinute_inner f t

theorem State.restand_inner (f : FilterNo) (s : State) : InnerMove s (s.restand f) := by
  unfold State.restand
  split
  · exact State.fileFilter_inner _ _ _
  · exact State.fileFilter_inner _ _ _
  · exact .refl s

theorem State.takeClass_inner (c : RawClass) (s : State) : InnerMove s (s.takeClass c) := by
  unfold State.takeClass
  split
  · exact .refl s
  · have taken : InnerMove s { s with filters := { s.filters with rawClass := c } } := .of_parts rfl
    exact taken.trans (.foldl _ _ _ fun t f => State.restand_inner f t)

theorem State.clearWashFailed_inner (f : FilterNo) (s : State) : InnerMove s (s.clearWashFailed f) := by
  unfold State.clearWashFailed
  split
  · exact State.fileFilter_inner _ _ _
  · exact .refl s

theorem State.filterAdmitted_inner (f : FilterNo) (s : State) : InnerMove s (s.filterAdmitted f) :=
  (State.countTransition_inner _ _ s).trans (State.setFilter_inner _ _ _)

theorem State.filterWashEnd_inner (f : FilterNo) (outcome : WashOutcome) (cause : Cause) (seq : Count16)
    (s : State) : InnerMove s (s.filterWashEnd f outcome cause seq) := by
  have filed : ∀ was now r, InnerMove s ((s.countTransition was now).fileFilter f r) :=
    fun was now r => (State.countTransition_inner was now s).trans (State.fileFilter_inner f r _)
  unfold State.filterWashEnd
  extract_lets r
  split
  · cases outcome <;> exact filed _ _ _
  · exact (State.countTransition_inner _ _ s).trans (State.setFilter_inner _ _ _)

theorem State.filterCommit_inner (f : FilterNo) (s : State) : InnerMove s (s.filterCommit f) := by
  unfold State.filterCommit
  extract_lets old new
  split
  · exact (State.setFilter_inner f new s).trans (State.staleChanged_inner _ _ _ _)
  · exact State.fileFilter_inner _ _ _

theorem State.filtersCommit_inner (s : State) : InnerMove s s.filtersCommit := by
  have counted : InnerMove s (s.setServiceCount s.serviceAfterCommit) := .of_parts rfl
  exact counted.trans (.foldl _ _ _ fun t f => State.filterCommit_inner f t)

/-! ### Conditions and flags -/

theorem State.handLive_inner (x : Flag) (was now : Bool) (s : State) :
    InnerMove s (s.handLive x was now) := by
  obtain ⟨u, h⟩ := State.handLive_shape x was now s
  rw [h]
  exact .of_parts rfl

theorem State.latchFlag_inner (x : Flag) (s : State) : InnerMove s (s.latchFlag x) := .of_parts rfl

theorem State.choose_inner (s : State) : InnerMove s s.choose.2 := by
  unfold State.choose
  extract_lets c u
  split
  · exact .refl s
  · refine .of_parts ?_
    simp only [State.innerParts]
    split <;> rfl

theorem State.evalForced_inner (s : State) : InnerMove s s.evalForced := by
  obtain ⟨b, u, h⟩ := State.evalForced_shape s
  rw [h]
  exact .of_parts rfl

theorem State.evalRotation_inner (s : State) : InnerMove s s.evalRotation := by
  obtain ⟨n, b, c, d, u, h⟩ := State.evalRotation_shape s
  rw [h]
  exact .of_parts rfl

theorem State.takeList_inner (before : WashQueue) (s : State) : InnerMove s (s.takeList before) := by
  obtain ⟨b, u, h⟩ := State.takeList_shape before s
  rw [h]
  exact .of_parts rfl

/-! ### Grants -/

/-- No request of the slot waits in the arbiter's list. -/
def State.NoRequest (s : State) (i : SlotId) : Prop := ∀ r ∈ s.arbiter.requests, r.slot ≠ i

theorem State.WashesPlaced.noRequest {o : Option SlotId} {s : State} (h : s.WashesPlaced o) (i : SlotId)
    (k : (s.slot i).state ≠ .waitSupply) : s.NoRequest i :=
  fun r hr e => k (e ▸ h.requests r hr)

/-- Only a grant pass may follow from the arbiter's moves: the slots, the arbiter and the monitor's view of
the holder change, and nothing else. -/
theorem OuterKept.of_shape {s t : State} (h : ∃ y z a v, t =
    { s with slotA := y, slotB := z, arbiter := a, monitor := { s.monitor with waterView := v } }) :
    OuterKept s t := by
  obtain ⟨y, z, a, v, rfl⟩ := h
  exact ⟨rfl, rfl, .refl _, id⟩

theorem Slot.enterRun_placed {n : Nat} {x : Slot} (q : PlantPage) (h : x.Placed n)
    (active : x.state ≠ .idle) (hr : x.resettle = none) : (x.enterRun q).Placed n where
  idle := ⟨fun k => by simp [Slot.enterRun] at k, fun k => absurd k (h.active.1 active)⟩
  copy _ := h.copy active
  running _ := rfl
  resettling k := by simp [Slot.enterRun, hr] at k

theorem Slot.takeGrant_placed {n : Nat} {x : Slot} (q : PlantPage) (h : x.Placed n)
    (hx : x.state = .waitSupply ∨ x.state = .run) : (x.takeGrant q).Placed n := by
  have hr : x.resettle = none := by
    cases e : x.resettle with
    | none => rfl
    | some m =>
      have := h.resettling (by simp [e])
      rw [this] at hx
      simp at hx
  refine Slot.enterRun_placed q (h.congr rfl rfl rfl rfl rfl h.running id) (fun k => ?_) hr
  have k' : x.state = .idle := k
  simp [k'] at hx

theorem State.grantRequest_eq (r : Request) (s : State) :
    ∃ a m, a.requests = (s.arbiter.withdraw r.slot).requests ∧ s.grantRequest r =
      State.setSlot r.slot ((s.slot r.slot).takeGrant s.plant) { s with arbiter := a, monitor := m } := by
  refine ⟨(s.grantRequest r).arbiter, (s.grantRequest r).monitor, rfl, ?_⟩
  unfold State.grantRequest
  cases r.slot <;> rfl

theorem State.WashesPlaced.withArbiter {o : Option SlotId} {s : State} (h : s.WashesPlaced o)
    (a : Arbiter) (m : Monitor) (sub : ∀ r ∈ a.requests, r ∈ s.arbiter.requests) :
    State.WashesPlaced o { s with arbiter := a, monitor := m } :=
  h.congr rfl rfl sub rfl h.usable

theorem Arbiter.mem_withdraw (a : Arbiter) (i : SlotId) (r : Request) :
    r ∈ (a.withdraw i).requests ↔ r ∈ a.requests ∧ r.slot ≠ i := by
  simp [Arbiter.withdraw]

theorem State.grantRequest_placed {o : Option SlotId} {s : State} (r : Request) (h : s.WashesPlaced o)
    (hr : (s.slot r.slot).state = .waitSupply ∨ (s.slot r.slot).state = .run) :
    (s.grantRequest r).WashesPlaced o := by
  obtain ⟨a, m, ha, e⟩ := State.grantRequest_eq r s
  rw [e]
  have k : State.WashesPlaced o { s with arbiter := a, monitor := m } :=
    h.withArbiter a m fun q hq => ((Arbiter.mem_withdraw _ _ _).1 (ha ▸ hq)).1
  refine k.setSlot r.slot _ (Slot.takeGrant_placed _ (h.slots _) hr) (fun _ _ w => w) ?_ fun q hq hi => ?_
  · have : (State.slot { s with arbiter := a, monitor := m } r.slot) = s.slot r.slot := by
      cases r.slot <;> rfl
    rw [this]
    refine ⟨fun w => by simp [Slot.takeGrant, Slot.enterRun] at w, fun w => ?_⟩
    simp [w] at hr
  · exact absurd hi ((Arbiter.mem_withdraw _ _ _).1 (ha ▸ hq)).2

/-- A grant leaves a waiting or running slot waiting or running. -/
theorem State.grantRequest_state (r : Request) (s : State) (i : SlotId)
    (h : (s.slot i).state = .waitSupply ∨ (s.slot i).state = .run) :
    ((s.grantRequest r).slot i).state = .waitSupply ∨ ((s.grantRequest r).slot i).state = .run := by
  obtain ⟨a, m, -, e⟩ := State.grantRequest_eq r s
  rw [e]
  by_cases k : i = r.slot
  · subst k
    rw [State.slot_setSlot_self]
    exact .inr rfl
  · rw [State.slot_setSlot_other _ _ _ _ k]
    cases i <;> exact h

theorem State.grantPass_placed {o : Option SlotId} {s : State} (h : s.WashesPlaced o) :
    s.grantPass.WashesPlaced o := by
  have hr : ∀ r ∈ s.arbiter.requests,
      (s.slot r.slot).state = .waitSupply ∨ (s.slot r.slot).state = .run :=
    fun r hr => .inl (h.requests r hr)
  unfold State.grantPass
  generalize s.arbiter.requests = rs at hr
  induction rs generalizing s with
  | nil => exact h
  | cons r rs ih =>
    rw [List.foldl_cons]
    have here := hr r List.mem_cons_self
    have later := fun q hq => hr q (List.mem_cons_of_mem _ hq)
    split
    · exact ih (State.grantRequest_placed r h here)
        fun q hq => State.grantRequest_state r s q.slot (later q hq)
    · exact ih h later

theorem State.grantPass_requests (s : State) :
    ∀ r ∈ s.grantPass.arbiter.requests, r ∈ s.arbiter.requests := by
  refine State.grantPass_keeps (fun t => ∀ r ∈ t.arbiter.requests, r ∈ s.arbiter.requests) s
    (fun _ => id) fun t r h _ q hq => ?_
  obtain ⟨a, m, ha, e⟩ := State.grantRequest_eq r t
  rw [e] at hq
  simp only [State.setSlot_arbiter] at hq
  exact h q ((Arbiter.mem_withdraw _ _ _).1 (ha ▸ hq)).1

theorem State.grantPass_inner (s : State) : InnerMove s s.grantPass :=
  ⟨.of_shape s.grantPass_shape, fun _ => State.grantPass_placed⟩

theorem State.release_requests (i : SlotId) (s : State) :
    ∀ r ∈ (s.release i).arbiter.requests, r ∈ s.arbiter.requests := by
  unfold State.release
  split
  · exact State.grantPass_requests _
  · exact fun _ => id

theorem State.release_placed {o : Option SlotId} {s : State} (i : SlotId) (h : s.WashesPlaced o) :
    (s.release i).WashesPlaced o := by
  unfold State.release
  split
  · refine State.grantPass_placed ?_
    have k : (s.setSlot i { s.slot i with rampTimer := none }).WashesPlaced o :=
      h.setSlot i _ ((h.slots i).congr rfl rfl rfl rfl rfl (h.slots i).running id) (fun _ _ k => k) .rfl
        fun _ hr hi => by rw [← h.requests _ hr, hi]
    exact k.withArbiter _ _ fun r hr => by rw [State.setSlot_arbiter]; exact hr
  · exact h

theorem State.release_inner (i : SlotId) (s : State) : InnerMove s (s.release i) :=
  ⟨.of_shape (State.release_shape i s), fun _ => State.release_placed i⟩

theorem State.withdraw_placed {o : Option SlotId} {s : State} (i : SlotId) (h : s.WashesPlaced o) :
    (s.withdraw i).WashesPlaced o :=
  h.withArbiter _ s.monitor fun _ hr => ((Arbiter.mem_withdraw _ _ _).1 hr).1

theorem State.withdraw_inner (i : SlotId) (s : State) : InnerMove s (s.withdraw i) :=
  ⟨⟨rfl, rfl, .refl _, id⟩, fun _ => State.withdraw_placed i⟩

theorem State.withdraw_noRequest (i : SlotId) (s : State) : (s.withdraw i).NoRequest i :=
  fun _ hr => ((Arbiter.mem_withdraw _ _ _).1 hr).2

/-- With its timers stopped a slot stays in place. -/
theorem Slot.stopRunTimers_placed {n : Nat} {x : Slot} (h : x.Placed n) : x.stopRunTimers.Placed n :=
  h.congr rfl rfl rfl rfl rfl (fun k => by simp [Slot.stopRunTimers] at k) id

theorem Slot.stopTimers_placed {n : Nat} {x : Slot} (h : x.Placed n) : x.stopTimers.Placed n :=
  h.congr rfl rfl rfl rfl rfl (fun k => by simp [Slot.stopTimers] at k)
    (fun k => by simp [Slot.stopTimers] at k)

theorem State.leaveRun_placed {o : Option SlotId} {s : State} (i : SlotId) (h : s.WashesPlaced o) :
    (s.leaveRun i).WashesPlaced o := by
  have k := State.release_placed i h
  exact k.setSlot i _ (Slot.stopRunTimers_placed (k.slots i)) (fun _ _ w => w) .rfl
    fun _ hr hi => by rw [← k.requests _ hr, hi]; rfl

theorem State.leaveRun_inner (i : SlotId) (s : State) : InnerMove s (s.leaveRun i) :=
  ⟨.of_shape (State.leaveRun_shape i s), fun _ => State.leaveRun_placed i⟩

theorem State.leaveRun_noRequest {i j : SlotId} {s : State} (h : s.NoRequest j) :
    (s.leaveRun i).NoRequest j := by
  intro r hr
  have e : (s.leaveRun i).arbiter = (s.release i).arbiter := State.setSlot_arbiter _ _ _
  rw [e] at hr
  exact h r (State.release_requests i s r hr)

theorem State.redriveDemand_inner (i : SlotId) (s : State) : InnerMove s (s.redriveDemand i) := by
  unfold State.redriveDemand
  split
  · exact .of_parts rfl
  · exact .refl s

/-- An active slot that is not in RESETTLE any more asks for a set and is in place. -/
theorem State.enterWaitSupply_inner (i : SlotId) (set : SupplySet) (s : State)
    (h : s.WashesPlaced none → (s.slot i).state ≠ .idle ∧ (s.slot i).resettle = none ∧
      (s.slot i).state ≠ .run) : InnerMove s (s.enterWaitSupply i set) := by
  refine ⟨.of_shape (State.enterWaitSupply_shape i set s), fun _ w => State.grantPass_placed ?_⟩
  obtain ⟨active, settled, left⟩ := h w
  have placed : Slot.Placed 1
      { s.slot i with state := .waitSupply, supplyWait := some s.plant.supplyWaitLimit } :=
    { idle := ⟨fun k => by simp at k, fun k => absurd k ((w.slots i).active.1 active)⟩
      copy := fun _ => (w.slots i).copy active
      running := fun k => absurd ((w.slots i).running k) left
      resettling := fun k => by simp [settled] at k }
  have k := w.setSlot (o' := none) i _ placed (fun _ _ w => w)
    ⟨fun k => by simp at k, fun k => absurd k active⟩ fun _ _ _ => rfl
  refine ⟨k.slots, fun r hr => ?_, k.count, k.usable⟩
  obtain rfl | hr := (mem_insertRequest _ _ _).1 hr
  · exact congrArg Slot.state (State.slot_setSlot_self s i _)
  · exact k.requests r (by simpa using hr)

end Sys2Proof.Machine

/-! PROOFS. Moves of the inner blocks: presence, admission, the journal and the end of a wash. -/

namespace Sys2Proof.Machine

/-! ### Presence -/

/-- A release keeps an active slot active. -/
theorem State.release_active {o : Option SlotId} {s : State} (i j : SlotId) (h : s.WashesPlaced o) :
    ((s.release i).slot j).state = .idle ↔ (s.slot j).state = .idle := by
  rw [((State.release_placed i h).slots j).idle, (h.slots j).idle, (State.release_context s i j).1]

/-- An active slot that loses its presence is in place in HALT (R114). -/
theorem State.halt_inner (i : SlotId) (s : State) (active : (s.slot i).state ≠ .idle) :
    InnerMove s (s.halt i) := by
  refine ⟨.of_shape (State.halt_shape i s), fun _ w => ?_⟩
  have k := State.withdraw_placed i (State.release_placed i w)
  have active' : (((s.release i).withdraw i).slot i).state ≠ .idle := by
    have e : ((s.release i).withdraw i).slot i = (s.release i).slot i := by cases i <;> rfl
    rw [e]
    exact fun a => active ((State.release_active i i w).1 a)
  refine k.setSlot i _ ?_ (fun _ _ w => w) ⟨fun a => by simp at a, fun a => absurd a active'⟩
    fun r hr hi => absurd hi (State.withdraw_noRequest i _ r hr)
  exact
    { idle := ⟨fun a => by simp at a, fun a => absurd a ((k.slots i).active.1 active')⟩
      copy := fun _ => (k.slots i).copy active'
      running := fun a => by simp [Slot.stopTimers] at a
      resettling := fun a => by simp [Slot.stopTimers] at a }

theorem State.losePresence_inner (i : SlotId) (s : State) : InnerMove s (s.losePresence i) := by
  unfold State.losePresence
  split
  case h_5 | h_6 => exact .refl s
  all_goals
    next e => exact State.halt_inner i s (by simp [e])

theorem Slot.enterSetup_placed {n : Nat} {x : Slot} (h : x.Placed n) (active : x.state ≠ .idle)
    (stopped : x.stepTimer = none ∧ x.shortfall = none ∧ x.clearHold = .stopped)
    (settled : x.resettle = none) : x.enterSetup.Placed n where
  idle := ⟨fun a => by simp [Slot.enterSetup] at a, fun a => absurd a (h.active.1 active)⟩
  copy _ := h.copy active
  running a := by simp [Slot.enterSetup, stopped] at a
  resettling a := by simp [Slot.enterSetup, settled] at a

/-- In a state that is neither RUN nor RESETTLE the timers of these are stopped. -/
theorem Slot.Placed.stopped {n : Nat} {x : Slot} (h : x.Placed n) (run : x.state ≠ .run) :
    x.stepTimer = none ∧ x.shortfall = none ∧ x.clearHold = .stopped := by
  have k := fun a => run (h.running a)
  obtain ⟨step, rest⟩ := not_or.1 k
  obtain ⟨short, hold⟩ := not_or.1 rest
  exact ⟨by simpa using step, by simpa using short, by simpa using hold⟩

theorem Slot.Placed.settled {n : Nat} {x : Slot} (h : x.Placed n) (state : x.state ≠ .resettle) :
    x.resettle = none :=
  Option.not_isSome_iff_eq_none.1 fun a => state (h.resettling a)

theorem State.regainPresence_inner (i : SlotId) (s : State) : InnerMove s (s.regainPresence i) := by
  unfold State.regainPresence
  split
  · next e =>
    refine ⟨.of_shape ?_, fun _ w => ?_⟩
    · obtain ⟨y, z, h⟩ := State.setSlot_shape i ({ s.slot i with haltTimer := none } : Slot).enterSetup s
      exact ⟨y, z, _, _, h⟩
    · have p := w.slots i
      refine w.setSlot i _ (Slot.enterSetup_placed (p.congr rfl rfl rfl rfl rfl p.running id) ?_
        (p.stopped ?_) (p.settled ?_)) (fun _ _ k => k) ⟨fun a => by simp [Slot.enterSetup] at a, ?_⟩ ?_
      · simp [e]
      · simp [e]
      · simp [e]
      · simp [e]
      · intro r hr hi
        have := w.requests r hr
        rw [hi, e] at this
        cases this
  · exact .refl s

theorem State.slotPresence_inner (before : Vector Bool 16) (i : SlotId) (s : State) :
    InnerMove s (s.slotPresence before i) := by
  unfold State.slotPresence
  split
  · exact .refl s
  · split
    · exact State.losePresence_inner i s
    · split
      · exact State.regainPresence_inner i s
      · exact .refl s

theorem State.slotsPresence_inner (before : Vector Bool 16) (s : State) :
    InnerMove s (s.slotsPresence before) := by
  obtain ⟨t, ht, h⟩ := State.slotsPresence_cases before s
  have start : InnerMove s t := by
    obtain rfl | rfl := ht
    · exact .refl t
    · exact .of_parts rfl
  obtain h | h := h
  · rw [h]
    exact (start.trans (State.slotPresence_inner _ _ _)).trans (State.slotPresence_inner _ _ _)
  · rw [h]
    exact (start.trans (State.slotPresence_inner _ _ _)).trans (State.slotPresence_inner _ _ _)

/-! ### Admission and examination -/

/-- An examination that finds every condition met finds a free slot (R47). -/
theorem State.activeCount_of_fits {s : State} {f : FilterNo} {needed : Nat}
    (h : s.verdict f = .fits needed) : s.admission.activeCount < 2 := by
  by_contra k
  simp [State.verdict, k] at h

theorem State.chosenSlot_idle {o : Option SlotId} {s : State} (h : s.WashesPlaced o)
    (k : s.admission.activeCount < 2) : (s.slot s.chosenSlot).state = .idle := by
  rw [h.count, State.activeSlots] at k
  unfold State.chosenSlot
  split
  · next e => exact e
  · next e =>
    rw [if_neg e] at k
    by_contra e'
    have e' : ¬ s.slotB.state = .idle := e'
    rw [if_neg e'] at k
    omega

/-- The page of the first eligible entry's filter is USABLE (R40). -/
theorem State.usable_of_firstEligible {s : State} {f : FilterNo} (h : s.firstEligible = some f) :
    s.queue.pageStatus[(s.filter f).programme] = .usable := by
  unfold State.firstEligible at h
  obtain ⟨e, he, rfl⟩ := Option.map_eq_some_iff.1 h
  have k := List.find?_some he
  by_contra u
  unfold State.eligibility at k
  extract_lets r at k
  rw [if_pos (.inl u : _ ∨ s.queue.plantCommitting = true)] at k
  split at k <;> cases k

theorem ProgrammeSound.first_repeats {steps : List StepRec} (h : ProgrammeSound steps) :
    1 ≤ (steps.getD 0 StepRec.blank).repeats := by
  obtain ⟨⟨hl, -⟩, hr, -⟩ := h
  cases steps with
  | nil => simp at hl
  | cons x xs =>
    obtain ⟨-, ⟨k, -⟩, -⟩ := hr x List.mem_cons_self
    exact k

/-- The context of an admitted wash is in place where its programme is sound (R58, R66). -/
theorem State.washContext_placed (s : State) (f : FilterNo) (ticket : Count32)
    (sound : ProgrammeSound (s.programmeOf f)) : (s.washContext f ticket).Placed 1 where
  idle := ⟨fun a => by simp [State.washContext, Slot.enterSetup] at a,
    fun a => by simp [State.washContext, Slot.enterSetup] at a⟩
  copy _ := ⟨sound, sound.1.1, sound.first_repeats, le_rfl⟩
  running a := by simp [State.washContext, Slot.enterSetup, Slot.atReset] at a
  resettling a := by simp [State.washContext, Slot.enterSetup, Slot.atReset] at a

theorem WashQueue.admitFilter_samePages (f : FilterNo) (q : WashQueue) :
    q.SamePages (q.admitFilter f) := ⟨rfl, rfl, rfl⟩

theorem State.filterAdmitted_slot (f : FilterNo) (s : State) (i : SlotId) :
    (s.filterAdmitted f).slot i = s.slot i := by
  obtain ⟨t, n, h⟩ := State.filterAdmitted_shape f s
  rw [h]
  cases i <;> rfl

theorem State.admitFilter_inner (f : FilterNo) (needed : Nat) (s : State)
    (fits : s.verdict f = .fits needed) (first : s.firstEligible = some f) :
    InnerMove s (s.admitFilter f needed) := by
  unfold State.admitFilter
  extract_lets ticket i x s1 s2 s3 u s4
  have taken : InnerMove s s2 :=
    (InnerMove.of_queue s (WashQueue.admitFilter_samePages f s.queue)).trans
      (State.filterAdmitted_inner f s1)
  have admitted : InnerMove s s4 := by
    refine ⟨taken.toOuterKept.trans ⟨?_, ?_, ?_, ?_⟩, fun sound w => ?_⟩
    · exact State.setSlot_ports _ _ _
    · exact State.setSlot_store _ _ _
    · show s2.queue.SamePages s3.queue
      rw [show s3.queue = s2.queue from State.setSlot_queue _ _ _]
      exact .refl _
    · show s2.journal.Consecutive → s3.journal.Consecutive
      rw [show s3.journal = s2.journal from State.setSlot_journal _ _ _]
      exact id
    · have w2 := taken.washes sound w
      have idle : (s2.slot i).state = .idle := by
        rw [show s2.slot i = s.slot i from (State.filterAdmitted_slot f s1 i).trans (by cases i <;> rfl)]
        exact State.chosenSlot_idle w (State.activeCount_of_fits fits)
      have placed : x.Placed 1 := State.washContext_placed s f ticket
        (sound.1 _ (.inr (w.usable _ (State.usable_of_firstEligible first))))
      refine w2.setSlotCounted i x _ placed (fun _ _ k => k) (fun r hr hi => ?_) ?_
      · have := w2.requests r hr
        rw [hi, idle] at this
        cases this
      · have k := s2.activeSlots_setSlot i x
        have hx : x.activity = 1 := rfl
        have hi : (s2.slot i).activity = 0 := if_pos idle
        have ha : s3.admission = s2.admission := State.setSlot_admission _ _ _
        have hc := w2.count
        show s3.admission.activeCount + 1 = _
        rw [ha]
        omega
  split
  · exact admitted
  · exact admitted.trans (State.losePresence_inner i s4)

theorem State.examine_inner (n : Nat) (s : State) : InnerMove s (s.examine n) := by
  refine State.examine_keeps (fun t => InnerMove s t) n s (.refl s) ?_ ?_ ?_
  · exact fun t reason needed h => h.trans (.of_parts rfl)
  · exact fun t f needed h _ fits first => h.trans (State.admitFilter_inner f needed t fits first)
  · exact fun t h => h.trans (State.choose_inner t)

theorem State.reconsider_inner (s : State) : InnerMove s s.reconsider :=
  ((State.choose_inner s).trans (State.examine_inner 3 _)).trans (State.evalRotation_inner _)

theorem State.rotate_inner (s : State) : InnerMove s s.rotate := by
  unfold State.rotate
  extract_lets t
  refine InnerMove.trans ?_ (State.evalRotation_inner _)
  split
  · exact (State.choose_inner s).trans (State.examine_inner 3 _)
  · exact State.choose_inner s

theorem State.rotateFrom_inner (before : WashQueue) (s : State) : InnerMove s (s.rotateFrom before) :=
  (State.takeList_inner before s).trans (State.rotate_inner _)

/-! ### The end of a wash -/

/-- A record under the next sequence number keeps the records consecutive and at most 32 (R145). -/
theorem Journal.write_consecutive {j : Journal} {r : JournalRec} (h : j.Consecutive)
    (hr : r.sequence = j.nextSequence) : (j.write r).Consecutive := by
  obtain ⟨bound, run⟩ := h
  have next : (j.write r).nextSequence = j.nextSequence + 1 := rfl
  by_cases full : j.records.length < 32
  · have records : (j.write r).records = j.records ++ [r] := by simp [Journal.write, full]
    have oldest : (j.write r).oldest = j.oldest := by
      simp only [Journal.oldest, next, records, List.length_append, List.length_singleton]
      bv_omega
    refine ⟨by rw [records, List.length_append, List.length_singleton]; omega, fun n hn => ?_⟩
    rw [oldest]
    simp only [records]
    by_cases k : n < j.records.length
    · rw [List.getElem_append_left k]
      exact run n k
    · have hn' : n = j.records.length := by
        rw [records, List.length_append, List.length_singleton] at hn
        omega
      subst hn'
      rw [List.getElem_append_right le_rfl]
      simp [hr, Journal.oldest]
  · have length : j.records.length = 32 := by omega
    have records : (j.write r).records = j.records.drop 1 ++ [r] := by simp [Journal.write, full]
    have oldest : (j.write r).oldest = j.oldest + 1 := by
      simp only [Journal.oldest, next, records, List.length_append, List.length_drop,
        List.length_singleton, length]
      bv_omega
    refine ⟨by simp [records, length], fun n hn => ?_⟩
    rw [oldest]
    simp only [records]
    have hn' : n < 32 := by simpa [records, length] using hn
    by_cases k : n < 31
    · rw [List.getElem_append_left (by simp [length, k]), List.getElem_drop, run (1 + n) (by omega)]
      rw [BitVec.ofNat_add, BitVec.add_assoc]
      rfl
    · have hn'' : n = 31 := by omega
      subst hn''
      rw [List.getElem_append_right (by simp [length])]
      simp only [List.getElem_singleton, hr, Journal.oldest, length]
      bv_omega

theorem Slot.atReset_placed (n : Nat) : Slot.atReset.Placed n where
  idle := ⟨fun _ => rfl, fun _ => rfl⟩
  copy a := absurd rfl a
  running a := by simp [Slot.atReset] at a
  resettling a := by simp [Slot.atReset] at a

/-- The record is written, the outcome latched and the filter told before the slot is freed, and none of that
touches a slot or the arbiter (R86). -/
theorem State.endWash_eq (i : SlotId) (outcome : WashOutcome) (cause : Cause) (s : State) (f : FilterNo)
    (hf : (s.slot i).filter = some f) :
    ∃ u, OuterKept s u ∧ u.slotA = s.slotA ∧ u.slotB = s.slotB ∧ u.arbiter = s.arbiter ∧
      u.admission = s.admission ∧
      s.endWash i outcome cause = (u.setSlot i Slot.atReset).slotFreed := by
  simp only [State.endWash, hf]
  generalize hr : (s.slot i).washRecord f _ _ _ _ = r
  obtain ⟨w, hw⟩ := State.latchOutcome_shape outcome { s with journal := s.journal.write r }
  obtain ⟨t, q, ht⟩ := State.filterWashEnd_shape f outcome cause s.journal.nextSequence
    { s with journal := s.journal.write r, status := w }
  have pages := (State.filterWashEnd_inner f outcome cause s.journal.nextSequence
    { s with journal := s.journal.write r, status := w }).pages
  rw [hw, ht]
  rw [ht] at pages
  exact ⟨{ s with journal := s.journal.write r, status := w, filters := t, queue := q },
    ⟨rfl, rfl, pages, fun k => Journal.write_consecutive k (by rw [← hr]; rfl)⟩, rfl, rfl, rfl, rfl, rfl⟩

theorem State.endWash_outer (i : SlotId) (outcome : WashOutcome) (cause : Cause) (s : State) :
    OuterKept s (s.endWash i outcome cause) := by
  cases hf : (s.slot i).filter with
  | none =>
    rw [State.endWash_of_none _ _ _ _ hf]
    exact .refl s
  | some f =>
    obtain ⟨u, outer, -, -, -, -, e⟩ := State.endWash_eq i outcome cause s f hf
    rw [e]
    have counted : OuterKept (u.setSlot i Slot.atReset) { u.setSlot i Slot.atReset with
        admission := { (u.setSlot i Slot.atReset).admission with
          activeCount := (u.setSlot i Slot.atReset).admission.activeCount - 1 } } :=
      ⟨rfl, rfl, .refl _, id⟩
    exact ((outer.trans (.setSlot u i _)).trans counted).trans (State.reconsider_inner _).toOuterKept

/-- A slot that ends its wash with no request waiting becomes IDLE, and every other stays in place (R86). -/
theorem State.endWash_placed {o : Option SlotId} {s : State} (i : SlotId) (outcome : WashOutcome)
    (cause : Cause) (sound : s.store.Sound) (h : s.WashesPlaced o) (ho : o = none ∨ o = some i)
    (holds : (s.slot i).filter ≠ none) (request : s.NoRequest i) :
    (s.endWash i outcome cause).WashesPlaced none := by
  obtain ⟨f, hf⟩ := Option.ne_none_iff_exists'.1 holds
  obtain ⟨u, outer, ha, hb, harb, hadm, e⟩ := State.endWash_eq i outcome cause s f hf
  rw [e]
  have slots : ∀ j, u.slot j = s.slot j
    | .a => ha
    | .b => hb
  have w : u.WashesPlaced o := h.mono (fun j _ p => slots j ▸ p) (fun j => by rw [slots j])
    (fun r hr => harb ▸ hr) (by rw [hadm]) outer.pages.pageStatus (by rw [outer.store])
  refine (State.reconsider_inner _).washes ?_ (w.setSlotCounted i Slot.atReset _ (Slot.atReset_placed _)
    ?_ (fun r hr hi => absurd hi (request r (harb ▸ hr))) ?_)
  · show (u.setSlot i Slot.atReset).store.Sound
    rw [State.setSlot_store, outer.store]
    exact sound
  · rintro j hj rfl
    rcases ho with ho | ho
    · cases ho
    · exact absurd (Option.some.inj ho) hj
  · have k := u.activeSlots_setSlot i Slot.atReset
    have hx : Slot.atReset.activity = 0 := rfl
    have hi : (u.slot i).activity = 1 := by
      rw [slots i]
      exact if_neg ((h.slots i).active.2 holds)
    have hc := w.count
    show (u.setSlot i Slot.atReset).admission.activeCount - 1 = _
    rw [State.setSlot_admission]
    omega

theorem State.abort_inner (i : SlotId) (cause : Cause) (s : State) : InnerMove s (s.abort i cause) := by
  have freed := (State.withdraw_inner i s).trans (State.release_inner i _)
  have stopped : InnerMove s (((s.withdraw i).release i).setSlot i
      (((s.withdraw i).release i).slot i).stopTimers) :=
    freed.trans (.setSlot _ i _ rfl fun _ => Slot.stopTimers_placed)
  refine ⟨stopped.toOuterKept.trans (State.endWash_outer i _ cause _), fun sound w => ?_⟩
  have w' := stopped.washes sound w
  have noRequest : (((s.withdraw i).release i).setSlot i
      (((s.withdraw i).release i).slot i).stopTimers).NoRequest i := by
    intro r hr
    rw [State.setSlot_arbiter] at hr
    exact State.withdraw_noRequest i s r (State.release_requests i _ r hr)
  unfold State.abort
  extract_lets t
  by_cases holds : ((t.setSlot i (t.slot i).stopTimers).slot i).filter = none
  · rw [State.endWash_of_none _ _ _ _ holds]
    exact w'
  · exact State.endWash_placed i _ _ (stopped.store ▸ sound) w' (.inl rfl) holds noRequest

end Sys2Proof.Machine

/-! PROOFS. Moves of the inner blocks: the steps of a wash and the expiries of a slot. -/

namespace Sys2Proof.Machine

/-! ### Repeats and steps -/

theorem Slot.step_mem {x : Slot} (h : x.stepIndex < x.programme.length) : x.step ∈ x.programme := by
  unfold Slot.step
  rw [List.getD_eq_getElem _ _ h]
  exact List.getElem_mem h

theorem State.runAgain_outer (i : SlotId) (s : State) : OuterKept s (s.runAgain i) :=
  (OuterKept.setSlot s i _).trans (State.redriveDemand_inner i _).toOuterKept

/-- A slot in RUN with a repeat left enters RUN again in place (R78). -/
theorem State.runAgain_placed {s : State} (i : SlotId) (sound : s.store.Sound)
    (h : s.WashesPlaced (some i)) (run : (s.slot i).state = .run) (left : 1 ≤ (s.slot i).repeatsLeft) :
    (s.runAgain i).WashesPlaced none := by
  refine (State.redriveDemand_inner i _).washes (by simpa using sound) ?_
  have p := h.slots i
  have placed : (s.slot i).Placed 1 :=
    ⟨p.idle, fun a => ⟨(p.copy a).1, (p.copy a).2.1, left, (p.copy a).2.2.2⟩, p.running, p.resettling⟩
  refine h.setSlot i _ (Slot.enterRun_placed _ placed (by simp [run]) (p.settled (by simp [run]))) ?_
    ⟨fun a => by simp [Slot.enterRun] at a, fun a => by simp [run] at a⟩
    fun r hr hi => absurd hi (h.noRequest i (by simp [run]) r hr)
  exact fun j hj k => absurd (Option.some.inj k).symm hj

theorem State.leaveRun_slot (i : SlotId) (s : State) :
    (s.leaveRun i).slot i = ((s.release i).slot i).stopRunTimers := State.slot_setSlot_self _ _ _

theorem State.nextStep_outer (i : SlotId) (s : State) : OuterKept s (s.nextStep i) :=
  .of_shape (State.nextStep_shape i s)

/-- A slot in RUN with a step left enters SETUP for it in place, with all of its repeats left (R79). -/
theorem State.nextStep_placed {s : State} (i : SlotId) (h : s.WashesPlaced (some i))
    (run : (s.slot i).state = .run) (more : (s.slot i).stepIndex + 1 < (s.slot i).programme.length) :
    (s.nextStep i).WashesPlaced none := by
  have w := State.leaveRun_placed i h
  have p := w.slots i
  have slot := State.leaveRun_slot i s
  obtain ⟨filter, programme, -, -, -, -, stepIndex, -, -, -, -, resettle, -⟩ := State.release_context s i i
  have held : ((s.leaveRun i).slot i).filter ≠ none := by
    rw [slot]
    exact fun e => (h.slots i).active.1 (by simp [run]) (filter ▸ e)
  have active := p.active.2 held
  obtain ⟨sound, -, -, -⟩ := p.copy active
  have next : ((s.leaveRun i).slot i).stepIndex + 1 < ((s.leaveRun i).slot i).programme.length := by
    rw [slot]
    show ((s.release i).slot i).stepIndex + 1 < ((s.release i).slot i).programme.length
    rw [programme, stepIndex]
    exact more
  unfold State.nextStep
  extract_lets t y x
  have repeats : 1 ≤ x.step.repeats := (sound.2.1 _ (Slot.step_mem (x := x) next)).2.1.1
  have settled : (t.slot i).resettle = none := by
    rw [show t.slot i = _ from slot]
    exact resettle.trans ((h.slots i).settled (by simp [run]))
  have stopped : (t.slot i).stepTimer = none ∧ (t.slot i).shortfall = none ∧
      (t.slot i).clearHold = .stopped := by
    rw [show t.slot i = _ from slot]
    exact ⟨rfl, rfl, rfl⟩
  have placed : Slot.Placed 1 { x with repeatsLeft := x.step.repeats } :=
    { idle := p.idle
      copy := fun _ => ⟨sound, next, repeats, le_rfl⟩
      running := p.running
      resettling := p.resettling }
  refine w.setSlot i _ (Slot.enterSetup_placed placed active stopped settled) ?_
    ⟨fun a => by simp [Slot.enterSetup] at a, fun a => absurd a active⟩
    fun r hr hi => absurd hi (State.leaveRun_noRequest (h.noRequest i (by simp [run])) r hr)
  exact fun j hj k => absurd (Option.some.inj k).symm hj

theorem State.completeWash_outer (i : SlotId) (s : State) : OuterKept s (s.completeWash i) :=
  (State.leaveRun_inner i s).toOuterKept.trans (State.endWash_outer i _ _ _)

theorem State.completeWash_placed {s : State} (i : SlotId) (sound : s.store.Sound)
    (h : s.WashesPlaced (some i)) (run : (s.slot i).state = .run) :
    (s.completeWash i).WashesPlaced none := by
  refine State.endWash_placed i _ _ ?_ (State.leaveRun_placed i h) (.inr rfl) ?_
    (State.leaveRun_noRequest (h.noRequest i (by simp [run])))
  · rw [(State.leaveRun_inner i s).store]
    exact sound
  · rw [State.leaveRun_slot]
    exact fun e => (h.slots i).active.1 (by simp [run]) ((State.release_context s i i).1 ▸ e)

theorem State.endRepeat_outer (i : SlotId) (s : State) : OuterKept s (s.endRepeat i) := by
  obtain ⟨-, e⟩ | ⟨-, -, e⟩ | ⟨-, -, e⟩ := State.endRepeat_cases i s
  · rw [e]
    exact (OuterKept.setSlot s i _).trans (State.runAgain_outer i _)
  · rw [e]
    exact (OuterKept.setSlot s i _).trans (State.nextStep_outer i _)
  · rw [e]
    exact (OuterKept.setSlot s i _).trans (State.completeWash_outer i _)

/-- The end of a repeat leaves every slot in place: the one that ends it has no repeats left only until it
enters its next step or becomes IDLE (R77). -/
theorem State.endRepeat_placed {s : State} (i : SlotId) (sound : s.store.Sound) (w : s.WashesPlaced none)
    (run : (s.slot i).state = .run) : (s.endRepeat i).WashesPlaced none := by
  let x : Slot := { s.slot i with repeatsLeft := (s.slot i).repeatsLeft - 1 }
  have sound' : (s.setSlot i x).store.Sound := by rwa [State.setSlot_store]
  have slot : (s.setSlot i x).slot i = x := State.slot_setSlot_self _ _ _
  have state : ((s.setSlot i x).slot i).state = .run := by rw [slot]; exact run
  have open_ : (s.setSlot i x).WashesPlaced (some i) := by
    have p := w.slots i
    refine w.setSlot i x ?_ (fun _ _ k => by cases k) .rfl fun r hr hi => ?_
    · rw [if_pos rfl]
      refine ⟨p.idle, fun a => ?_, p.running, p.resettling⟩
      obtain ⟨programme, position, -, most⟩ := p.copy a
      exact ⟨programme, position, Nat.zero_le _, (Nat.sub_le _ _).trans most⟩
    · exact (congrArg (fun j => (s.slot j).state) hi.symm).trans (w.requests r hr)
  obtain ⟨left, e⟩ | ⟨-, more, e⟩ | ⟨-, -, e⟩ := State.endRepeat_cases i s
  · rw [e]
    exact State.runAgain_placed i sound' open_ state (by rw [slot]; exact Nat.le_sub_of_add_le left)
  · rw [e]
    exact State.nextStep_placed i open_ state (by rw [slot]; exact more)
  · rw [e]
    exact State.completeWash_placed i sound' open_ state

theorem State.endRepeat_inner (i : SlotId) (s : State) (run : (s.slot i).state = .run) :
    InnerMove s (s.endRepeat i) :=
  ⟨State.endRepeat_outer i s, fun sound w => State.endRepeat_placed i sound w run⟩

/-- An accepted STEP_READY of a slot in SETUP (R71). -/
theorem State.stepReady_inner (i : SlotId) (s : State) (setup : (s.slot i).state = .setup) :
    InnerMove s (s.stepReady i) := by
  unfold State.stepReady
  extract_lets y x t
  have first : InnerMove s t := .setSlot s i x rfl fun _ p => p.congr rfl rfl rfl rfl rfl p.running id
  have slot : t.slot i = x := State.slot_setSlot_self _ _ _
  have state : (t.slot i).state = .setup := by rw [slot]; exact setup
  split
  · next set _ =>
    refine first.trans (State.enterWaitSupply_inner i set t fun w => ⟨by simp [state], ?_, by simp [state]⟩)
    exact (w.slots i).settled (by simp [state])
  · refine first.trans ⟨.setSlot t i _, fun _ w => ?_⟩
    have p := w.slots i
    rw [slot] at p
    refine w.setSlot i _ (Slot.enterRun_placed _ p ?_ (p.settled ?_)) (fun _ _ k => k)
      ⟨fun a => by simp [Slot.enterRun] at a, fun a => by simp [state] at a⟩
      fun r hr hi => absurd hi (w.noRequest i (by simp [state]) r hr)
    · simp [← slot, state]
    · simp [← slot, state]

/-! ### Timer expiries -/

theorem State.valveExpiry_inner (i : SlotId) (s : State) : InnerMove s (s.valveExpiry i) := by
  unfold State.valveExpiry
  split
  · exact State.abort_inner i _ s
  · exact .refl s

theorem State.supplyWaitExpiry_inner (i : SlotId) (s : State) : InnerMove s (s.supplyWaitExpiry i) := by
  unfold State.supplyWaitExpiry
  split
  · exact State.abort_inner i _ s
  · exact .refl s

theorem State.haltExpiry_inner (i : SlotId) (s : State) : InnerMove s (s.haltExpiry i) := by
  unfold State.haltExpiry
  split
  · exact State.abort_inner i _ s
  · exact .refl s

/-- A repeat that a timer ends, once the timers of its slot have been changed in place. -/
theorem State.endRepeat_after (i : SlotId) (s : State) (x : Slot) (state : x.state = (s.slot i).state)
    (placed : ∀ n, (s.slot i).Placed n → x.Placed n)
    (run : ∀ n, (s.slot i).Placed n → (s.slot i).state = .run) :
    InnerMove s ((s.setSlot i x).endRepeat i) := by
  have first := InnerMove.setSlot s i x state placed
  refine ⟨first.toOuterKept.trans (State.endRepeat_outer i _), fun sound w => ?_⟩
  refine State.endRepeat_placed i (first.store ▸ sound) (first.washes sound w) ?_
  rw [State.slot_setSlot_self, state]
  exact run _ (w.slots i)

theorem State.stepExpiry_inner (i : SlotId) (s : State) : InnerMove s (s.stepExpiry i) := by
  unfold State.stepExpiry
  extract_lets x y
  split
  · next runs =>
    have placed : ∀ n, x.Placed n → y.Placed n := fun n p =>
      p.congr rfl rfl rfl rfl rfl (fun _ => p.running (.inl runs)) id
    have run : ∀ n, x.Placed n → x.state = .run := fun n p => p.running (.inl runs)
    split
    · exact (InnerMove.setSlot s i y rfl placed).trans (State.abort_inner i _ _)
    · exact State.endRepeat_after i s _ rfl
        (fun n p => (placed n p).congr rfl rfl rfl rfl rfl (fun _ => run n p) id) run
    all_goals exact State.endRepeat_after i s y rfl placed run
  · exact .refl s

theorem State.clearHoldExpiry_inner (i : SlotId) (s : State) : InnerMove s (s.clearHoldExpiry i) := by
  unfold State.clearHoldExpiry
  split
  · next n h =>
    have run : ∀ n, (s.slot i).Placed n → (s.slot i).state = .run :=
      fun n p => p.running (.inr (.inr (by simp [h])))
    exact State.endRepeat_after i s _ rfl
      (fun n p => p.congr rfl rfl rfl rfl rfl (fun _ => run n p) id) run
  · exact .refl s
  · exact .refl s

theorem State.rampExpiry_inner (i : SlotId) (s : State) : InnerMove s (s.rampExpiry i) := by
  unfold State.rampExpiry
  extract_lets x k
  split
  · refine InnerMove.trans ?_ (State.redriveDemand_inner i _)
    exact .setSlot s i _ rfl fun n p => p.congr rfl rfl rfl rfl rfl p.running id
  · exact .refl s

/-- A shortfall takes its slot out of RUN, into RESETTLE or to the end of its wash (R108, R109). -/
theorem State.shortfallExpiry_inner (i : SlotId) (s : State) : InnerMove s (s.shortfallExpiry i) := by
  unfold State.shortfallExpiry
  split
  · next runs =>
    extract_lets t x
    have left : InnerMove s t := (State.leaveRun_inner i s).trans (State.latchFlag_inner _ _)
    split
    · refine ⟨left.toOuterKept.trans (.setSlot t i _), fun sound w => ?_⟩
      have w' := left.washes sound w
      have run := (w.slots i).running (.inr (.inl runs))
      have slot : t.slot i = ((s.release i).slot i).stopRunTimers := State.leaveRun_slot i s
      have active : (t.slot i).state ≠ .idle := by
        rw [slot]
        exact fun e => absurd ((State.release_active i i w).1 e) (by simp [run])
      have p := w'.slots i
      refine w'.setSlot i _ ?_ (fun _ _ k => k) ⟨fun e => by simp at e, fun e => absurd e active⟩
        fun r hr hi => absurd hi (State.leaveRun_noRequest (w.noRequest i (by simp [run])) r hr)
      exact
        { idle := ⟨fun e => by simp at e, fun e => absurd e (p.active.1 active)⟩
          copy := fun _ => p.copy active
          running := fun e => by simp [x, slot, Slot.stopRunTimers] at e
          resettling := fun _ => rfl }
    · exact left.trans (State.abort_inner i _ t)
  · exact .refl s

theorem State.resettleExpiry_inner (i : SlotId) (s : State) : InnerMove s (s.resettleExpiry i) := by
  unfold State.resettleExpiry
  extract_lets x t
  split
  · next runs =>
    have settled : InnerMove s t :=
      .setSlot s i _ rfl fun n p => p.congr rfl rfl rfl rfl rfl p.running (fun k => by simp at k)
    split
    · next set _ =>
      have outer : OuterKept t (t.enterWaitSupply i set) := .of_shape (State.enterWaitSupply_shape i set t)
      refine ⟨settled.toOuterKept.trans outer, fun sound w => ?_⟩
      have state : (t.slot i).state = .resettle := by
        rw [State.slot_setSlot_self]
        exact (w.slots i).resettling runs
      refine (State.enterWaitSupply_inner i set t fun _ => ⟨by simp [state], ?_, by simp [state]⟩).washes
        (settled.store ▸ sound) (settled.washes sound w)
      rw [State.slot_setSlot_self]
    · exact settled
  · exact .refl s

end Sys2Proof.Machine

/-! PROOFS. Moves of the inner blocks: time, samples and the commit of the plant page at the Supply Monitor. -/

namespace Sys2Proof.Machine

theorem State.spacingExpiry_inner (s : State) : InnerMove s s.spacingExpiry := by
  unfold State.spacingExpiry
  split
  · refine InnerMove.trans ?_ (State.reconsider_inner _)
    exact .of_parts rfl
  · exact .refl s

/-! ### The minute event -/

theorem State.minute_inner (s : State) : InnerMove s s.minute := by
  have advanced : InnerMove s { s with seconds := 0, clock := s.clock + 1 } := .of_parts rfl
  refine advanced.trans (.eitherOrder _ (fun t => ?_) fun t => ?_)
  · exact (State.filtersMinute_inner t).trans (State.rotateFrom_inner _ _)
  · unfold State.minuteAtAdmission
    extract_lets u count
    have counted : InnerMove t { t with admission := { u with stallCount := count } } := .of_parts rfl
    exact counted.trans (State.evalRotation_inner _)

/-! ### What the arbiter and the Admission Unit take from the monitor -/

theorem State.tankLowAtArbiter_inner (value : Bool) (s : State) :
    InnerMove s (s.tankLowAtArbiter value) := by
  unfold State.tankLowAtArbiter
  extract_lets a t
  have barred : InnerMove s t := .of_parts rfl
  split
  · split
    · exact barred.trans (State.abort_inner _ _ t)
    · exact barred
  · exact barred.trans (State.grantPass_inner t)

theorem State.basinFullAtArbiter_inner (value : Bool) (s : State) :
    InnerMove s (s.basinFullAtArbiter value) := by
  unfold State.basinFullAtArbiter
  extract_lets a t
  have barred : InnerMove s t := .of_parts rfl
  split
  · exact barred
  · exact barred.trans (State.grantPass_inner t)

theorem State.faultAtArbiter_inner (c : Channel) (value : Bool) (s : State) :
    InnerMove s (s.faultAtArbiter c value) := by
  cases c with
  | basin => exact .refl s
  | tank =>
    show InnerMove s (s.tankFaultAtArbiter value)
    unfold State.tankFaultAtArbiter
    extract_lets a t
    have barred : InnerMove s t := .of_parts rfl
    split
    · exact barred
    · exact barred.trans (State.grantPass_inner t)
  | flow =>
    show InnerMove s (s.flowFaultAtArbiter value)
    unfold State.flowFaultAtArbiter
    extract_lets a t
    have barred : InnerMove s t := .of_parts rfl
    split
    · split
      · refine barred.trans (.setSlot t _ _ rfl fun n p => p.congr rfl rfl rfl rfl rfl (fun k => ?_) id)
        exact p.running (k.imp id (Or.imp (fun e => by simp at e) id))
      · exact barred
    · exact barred.trans (State.grantPass_inner t)

theorem AdmissionUnit.setView_activeCount (c : Channel) (v : ChannelView) (u : AdmissionUnit) :
    (u.setView c v).activeCount = u.activeCount := by cases c <;> rfl

/-- The Admission Unit takes values that leave its count of active slots alone. -/
theorem InnerMove.of_admission (s : State) (u : AdmissionUnit)
    (h : u.activeCount = s.admission.activeCount) : InnerMove s { s with admission := u } :=
  .of_parts (by simp only [State.innerParts, h])

theorem State.faultAtAdmission_inner (c : Channel) (value : Bool) (s : State) :
    InnerMove s (s.faultAtAdmission c value) :=
  (InnerMove.of_admission s _ (AdmissionUnit.setView_activeCount _ _ _)).trans (State.reconsider_inner _)

theorem State.levelAtAdmission_inner (c : Channel) (level : Nat) (s : State) :
    InnerMove s (s.levelAtAdmission c level) := by
  refine (InnerMove.of_admission s _ ?_).trans (State.reconsider_inner _)
  cases c <;> rfl

theorem State.flowAtAdmission_inner (s : State) : InnerMove s s.flowAtAdmission := by
  unfold State.flowAtAdmission
  extract_lets v
  split
  · exact .refl s
  · refine InnerMove.trans ?_ (State.reconsider_inner _)
    exact .of_parts rfl

theorem State.compareFlow_inner (average : Nat) (s : State) : InnerMove s (s.compareFlow average) := by
  unfold State.compareFlow
  split
  · exact .refl s
  · next i _ =>
    extract_lets x
    split
    · next supervised =>
      exact .setSlot s i _ rfl fun n p => p.congr rfl rfl rfl rfl rfl (fun _ => supervised.1) id
    · exact .refl s

/-! ### The monitor -/

theorem State.monitor_inner (s : State) (m : Monitor) : InnerMove s { s with monitor := m } :=
  .of_parts rfl

theorem State.setChannel_inner (c : Channel) (r : ChannelRec) (s : State) :
    InnerMove s (s.setChannel c r) := State.monitor_inner _ _

theorem State.evalTankLow_inner (s : State) : InnerMove s s.evalTankLow := by
  unfold State.evalTankLow
  extract_lets was now m t
  split
  · exact .refl s
  · have handed : InnerMove s (t.setLive .tankLow now) := .of_parts rfl
    exact handed.trans (State.tankLowAtArbiter_inner _ _)

theorem State.evalBasinFull_inner (s : State) : InnerMove s s.evalBasinFull := by
  unfold State.evalBasinFull
  extract_lets was now m t
  split
  · exact .refl s
  · have handed : InnerMove s (t.setLive .basinFull now) := .of_parts rfl
    exact handed.trans (State.basinFullAtArbiter_inner _ _)

theorem State.completeWindow_inner (c : Channel) (sum : Nat) (s : State) :
    InnerMove s (s.completeWindow c sum) := by
  unfold State.completeWindow
  extract_lets length r t average u v
  have filed : InnerMove s t := State.setChannel_inner c r s
  split
  · have primed : InnerMove t u := .of_parts rfl
    exact (filed.trans primed).trans
      (.eitherOrder _ (State.levelAtAdmission_inner .tank average) State.evalTankLow_inner)
  · have primed : InnerMove t v := .of_parts rfl
    exact ((filed.trans primed).trans (State.levelAtAdmission_inner .basin average _)).trans
      (State.evalBasinFull_inner _)
  · exact (filed.trans (State.flowAtAdmission_inner t)).trans (State.compareFlow_inner _ _)

theorem State.intoWindow_inner (c : Channel) (reading : BitVec 12) (s : State) :
    InnerMove s (s.intoWindow c reading) := by
  unfold State.intoWindow State.addToWindow
  extract_lets r length
  split
  · exact State.setChannel_inner _ _ s
  · exact State.completeWindow_inner _ _ s

theorem State.creditFlow_inner (v : Nat) (s : State) : InnerMove s (s.creditFlow v) := by
  unfold State.creditFlow
  extract_lets m t
  refine InnerMove.trans (t := t) ?_ (State.monitor_inner t _)
  unfold t
  split
  · next i _ =>
    exact .setSlot s i _ rfl fun n p => p.congr rfl rfl rfl rfl rfl p.running id
  · exact State.monitor_inner s _

theorem State.scaleAndCredit_inner (c : Channel) (reading : BitVec 12) (s : State) :
    InnerMove s (s.scaleAndCredit c reading) := by
  unfold State.scaleAndCredit
  extract_lets v r t
  have scaled : InnerMove s t := State.setChannel_inner _ _ s
  split
  · exact scaled.trans (State.creditFlow_inner _ t)
  · exact scaled

theorem State.handFault_inner (c : Channel) (value : Bool) (s : State) :
    InnerMove s (s.handFault c value) := by
  have evaluated : InnerMove s s.evalSignalFault :=
    (State.monitor_inner s _).trans (State.handLive_inner _ _ _ _)
  exact (evaluated.trans (State.faultAtArbiter_inner c value _)).trans
    (State.faultAtAdmission_inner c value _)

theorem State.faultSample_inner (c : Channel) (s : State) : InnerMove s (s.faultSample c) := by
  unfold State.faultSample
  extract_lets r
  split
  · exact .refl s
  · exact (State.setChannel_inner c _ s).trans (State.handFault_inner c true _)

theorem State.goodSample_inner (c : Channel) (reading : BitVec 12) (s : State) :
    InnerMove s (s.goodSample c reading) :=
  (State.scaleAndCredit_inner c reading s).trans (State.intoWindow_inner c reading _)

theorem State.endFault_inner (c : Channel) (reading : BitVec 12) (s : State) :
    InnerMove s (s.endFault c reading) := by
  unfold State.endFault
  extract_lets r t
  have left : InnerMove s t := State.setChannel_inner _ _ s
  split
  · exact (left.trans (.eitherOrder t (State.handFault_inner .flow false)
      (State.scaleAndCredit_inner .flow reading))).trans (State.intoWindow_inner .flow reading _)
  all_goals exact left.trans (.eitherOrder t (State.handFault_inner _ false)
    (State.goodSample_inner _ reading))

theorem State.sample_inner (c : Channel) (reading : BitVec 12) (s : State) :
    InnerMove s (s.sample c reading) := by
  unfold State.sample
  extract_lets r t
  have read : InnerMove s t := State.setChannel_inner _ _ s
  split
  · split
    · exact read.trans (State.endFault_inner c reading t)
    · exact read.trans (State.goodSample_inner c reading t)
  · exact read.trans (State.faultSample_inner c t)

theorem State.monitorCommit_inner (old : PlantPage) (s : State) : InnerMove s (s.monitorCommit old) := by
  refine (State.monitor_inner s _).trans (.eitherOrder _ (fun t => ?_) fun t => ?_)
  · unfold State.commitTank
    split
    · exact .refl t
    · refine InnerMove.trans ?_ (State.evalTankLow_inner _)
      exact .of_parts rfl
  · unfold State.commitBasin
    split
    · exact .refl t
    · exact State.evalBasinFull_inner t

/-- The Filter Table, the queue and the Admission Unit at a plant page completion, once the queue has the
plant page back (R142). -/
theorem State.tableCommit_inner (s : State) :
    InnerMove { s with queue := { s.queue with plantCommitting := false } } s.tableCommit := by
  have loaded : InnerMove { s with queue := { s.queue with plantCommitting := false } }
      { s with queue := { s.queue with plantCommitting := false, floor := s.plant.floor } } := .of_parts rfl
  exact ((loaded.trans (State.filtersCommit_inner _)).trans (State.evalForced_inner _)).trans
    (State.reconsider_inner _)

end Sys2Proof.Machine

/-! PROOFS. Moves of the part: the agreements on ports and pages, the receiver and the frames of notices. -/

namespace Sys2Proof.Machine

/-! ### Moves of the whole part -/

/-- What every move of the part keeps: the journal, the ports, the latch, the pages and the washes. -/
structure OuterMove (s t : State) : Prop where
  journal : s.journal.Consecutive → t.journal.Consecutive
  fit : s.PortsFit → t.PortsFit
  apart : s.PortsApart → t.PortsApart
  supervised : s.LatchSupervised → t.LatchSupervised
  status : s.PageStatusCurrent → t.PageStatusCurrent
  store : s.store.Sound → t.store.Sound
  washes : s.store.Sound → s.WashesPlaced none → t.WashesPlaced none

theorem OuterMove.refl (s : State) : OuterMove s s := ⟨id, id, id, id, id, id, fun _ => id⟩

theorem OuterMove.trans {s t u : State} (h : OuterMove s t) (k : OuterMove t u) : OuterMove s u where
  journal := k.journal ∘ h.journal
  fit := k.fit ∘ h.fit
  apart := k.apart ∘ h.apart
  supervised := k.supervised ∘ h.supervised
  status := k.status ∘ h.status
  store := k.store ∘ h.store
  washes sound w := k.washes (h.store sound) (h.washes sound w)

theorem OuterMove.foldl {α : Type} (f : State → α → State) (l : List α) (s : State)
    (h : ∀ t a, OuterMove t (f t a)) : OuterMove s (l.foldl f s) := by
  induction l generalizing s with
  | nil => exact .refl s
  | cons a l ih => exact (h s a).trans (ih _)

theorem State.port_congr {s t : State} (h : t.ports = s.ports) (p : Port) : t.port p = s.port p := by
  cases p <;> simp only [State.port, h]

theorem State.coverage_of_ports {s t : State} (h : t.ports = s.ports) : t.coverage = s.coverage :=
  (State.coverage_congr s t fun p => by rw [State.port_congr h p]; exact ⟨rfl, rfl⟩).1

/-- A move of the inner blocks is one of the part. -/
theorem InnerMove.outer {s t : State} (h : InnerMove s t) : OuterMove s t where
  journal := h.journal
  fit k p := by
    rw [State.port_congr h.ports p]
    exact k p
  apart := by
    rintro ⟨attached, apart, covered⟩
    refine ⟨fun p => ?_, fun p q b c => ?_, ?_⟩
    · rw [State.port_congr h.ports p]
      exact attached p
    · rw [State.port_congr h.ports p, State.port_congr h.ports q]
      exact apart p q b c
    · rw [h.pages.covered, State.coverage_of_ports h.ports]
      exact covered
  supervised := by
    rintro ⟨role, staging, free⟩
    refine ⟨fun p => ?_, ?_, ?_⟩
    · rw [State.port_congr h.ports p, h.store]
      exact role p
    · rw [h.store]
      exact staging
    · rw [h.store]
      exact free
  status := by
    rintro ⟨pages, plant⟩
    refine ⟨fun g => ?_, ?_⟩
    · rw [h.pages.pageStatus, h.store]
      exact pages g
    · rw [h.pages.plantCommitting, h.store]
      exact plant
  store k := h.store ▸ k
  washes := h.washes

theorem State.chosen_outer (s : State) : OuterMove s s.chosen :=
  InnerMove.outer (.of_parts rfl)

/-! ### Ports -/

/-- A port's queues are within their bounds, and its outbound payloads fit a frame (R151, R152). -/
def PortRec.Fits (r : PortRec) : Prop :=
  r.inbound.length ≤ 4 ∧ r.outbound.length ≤ 8 ∧ ∀ fr ∈ r.outbound, fr.payload.length ≤ 60

/-- A port's record goes over to one with the same attachment, whose silence timer runs as it should and
whose queues fit if they did. -/
structure PortRec.GoesTo (r q : PortRec) : Prop where
  role : q.role = r.role
  bounds : q.bounds = r.bounds
  silence : r.silenceTimer.isSome = r.attached → q.silenceTimer.isSome = q.attached
  fits : r.Fits → q.Fits

theorem PortRec.GoesTo.refl (r : PortRec) : r.GoesTo r := ⟨rfl, rfl, id, id⟩

theorem PortRec.GoesTo.trans {r q u : PortRec} (h : r.GoesTo q) (k : q.GoesTo u) : r.GoesTo u :=
  ⟨k.role.trans h.role, k.bounds.trans h.bounds, k.silence ∘ h.silence, k.fits ∘ h.fits⟩

theorem OuterMove.of_ports {s : State} (ps : Ports)
    (goes : ∀ p, (s.port p).GoesTo (State.port { s with ports := ps } p)) :
    OuterMove s { s with ports := ps } where
  journal := id
  fit k p := (goes p).fits (k p)
  apart := by
    rintro ⟨attached, apart, covered⟩
    refine ⟨fun p => ?_, fun p q b c => ?_, ?_⟩
    · obtain ⟨bounds, silence⟩ := attached p
      rw [(goes p).bounds, (goes p).role]
      exact ⟨bounds, (goes p).silence silence⟩
    · rw [(goes p).bounds, (goes q).bounds]
      exact apart p q b c
    · exact covered.trans
        (State.coverage_congr s _ fun p => ⟨(goes p).role, (goes p).bounds⟩).1.symm
  supervised := by
    rintro ⟨role, rest⟩
    refine ⟨fun p hp => ?_, rest⟩
    rw [(goes p).role]
    exact role p hp
  status := id
  store := id
  washes _ w := w.congr rfl rfl (fun _ => id) rfl w.usable

theorem State.setPort_ports_eq (s : State) (p : Port) (r : PortRec) :
    ∃ ps, s.setPort p r = { s with ports := ps } := by cases p <;> exact ⟨_, rfl⟩

theorem OuterMove.setPort (s : State) (p : Port) (r : PortRec) (goes : (s.port p).GoesTo r) :
    OuterMove s (s.setPort p r) := by
  obtain ⟨ps, e⟩ := State.setPort_ports_eq s p r
  rw [e]
  refine .of_ports ps fun q => ?_
  rw [← e]
  by_cases h : q = p
  · subst h
    rw [State.port_setPort_self]
    exact goes
  · rw [State.port_setPort_other _ _ _ _ h]
    exact .refl _

theorem State.popInbound_outer (p : Port) (s : State) : OuterMove s (s.popInbound p) := by
  refine .setPort s p _ ⟨rfl, rfl, id, fun ⟨inbound, outbound, payloads⟩ => ⟨?_, outbound, payloads⟩⟩
  rw [List.length_drop]
  omega

/-- A frame of at most 60 payload bytes joins an outbound queue with a free place. -/
theorem State.sendFrame_outer (p : Port) (fr : Frame) (s : State) (place : (s.port p).outbound.length < 8)
    (payload : fr.payload.length ≤ 60) : OuterMove s (s.sendFrame p fr) := by
  refine .setPort s p _ ⟨rfl, rfl, id, fun ⟨inbound, _, payloads⟩ => ⟨inbound, ?_, ?_⟩⟩
  · rw [List.length_append, List.length_singleton]
    exact place
  · intro x hx
    obtain hx | hx := List.mem_append.1 hx
    · exact payloads x hx
    · rw [List.mem_singleton.1 hx]
      exact payload

/-! ### The receiver -/

theorem PortRec.discard_goesTo (r : PortRec) : r.GoesTo r.discard := ⟨rfl, rfl, id, id⟩

theorem PortRec.arrive_goesTo (fr : Frame) (r : PortRec) : r.GoesTo (r.arrive fr) := by
  unfold PortRec.arrive
  extract_lets r1
  have restarted : r.GoesTo r1 := by
    refine ⟨rfl, rfl, fun k => ?_, id⟩
    show (if r.attached then some r.silenceLimit else r.silenceTimer).isSome = r.attached
    split
    · next a => exact a.symm
    · exact k
  refine restarted.trans ?_
  split
  · next place =>
    refine ⟨rfl, rfl, id, fun ⟨_, outbound, payloads⟩ => ⟨?_, outbound, payloads⟩⟩
    rw [List.length_append, List.length_singleton]
    exact place
  · exact ⟨rfl, rfl, id, id⟩

theorem PortRec.receive_goesTo (r : PortRec) (b : Byte) : r.GoesTo (r.receive b) := by
  unfold PortRec.receive
  split
  · split
    · exact ⟨rfl, rfl, id, id⟩
    · exact .refl r
  · extract_lets all
    split
    · exact r.discard_goesTo
    · split
      · split
        · exact r.arrive_goesTo _
        · exact r.discard_goesTo
      · exact ⟨rfl, rfl, id, id⟩

theorem PortRec.receiveAll_goesTo (bs : List Byte) (r : PortRec) : r.GoesTo (r.receiveAll bs) := by
  unfold PortRec.receiveAll
  induction bs generalizing r with
  | nil => exact .refl r
  | cons b bs ih => exact (r.receive_goesTo b).trans (ih _)

theorem PortRec.receiveWithGap_goesTo (bs : List Byte) (gap : Option Byte) (r : PortRec) :
    r.GoesTo (r.receiveWithGap bs gap) := by
  unfold PortRec.receiveWithGap
  split
  · exact r.receiveAll_goesTo bs
  · next b =>
    refine (r.receiveAll_goesTo bs).trans ?_
    unfold PortRec.receiveAfterGap
    split
    · exact PortRec.receive_goesTo _ b
    · exact (PortRec.discard_goesTo _).trans (PortRec.receive_goesTo _ b)

/-! ### Notices -/

/-- The frames of notices fit (Table 10-6). -/
theorem State.noticeFrame_payload {s : State} {n : Notice} {p : Port} {fr : Frame}
    (h : s.noticeFrame n = some (p, fr)) : fr.payload.length ≤ 60 := by
  unfold State.noticeFrame at h
  split at h
  · extract_lets x at h
    split at h
    · obtain ⟨q, -, e⟩ := Option.map_eq_some_iff.1 h
      cases e
      simp [u8]
    · obtain ⟨q, -, e⟩ := Option.map_eq_some_iff.1 h
      cases e
      simp [u8]
    · cases h
  · extract_lets r at h
    split at h
    · obtain ⟨q, -, e⟩ := Option.map_eq_some_iff.1 h
      cases e
      simp [u8, u16]
    · cases h
  · split at h
    · split at h
      · cases h
        simp [u8]
      · cases h
    · cases h

end Sys2Proof.Machine

/-! PROOFS. Moves of the part: the edit latch, owed notices, attachment and departure. -/

namespace Sys2Proof.Machine

/-! ### The Page Store's volatile items -/

/-- The latch, the staging page and what is owed change, and the pages and a commit in progress do not. -/
theorem OuterMove.of_store {s : State} (t : PageStore) (programmes : t.programmes = s.store.programmes)
    (plant : t.plant = s.store.plant) (commit : t.commit = s.store.commit)
    (supervised : s.LatchSupervised → State.LatchSupervised { s with store := t })
    (staging : s.store.Sound → ∀ x ∈ t.staging, x.InRange) : OuterMove s { s with store := t } where
  journal := id
  fit := id
  apart := id
  supervised := supervised
  status := by
    rintro ⟨pages, committing⟩
    refine ⟨fun g => ?_, ?_⟩
    · show s.queue.pageStatus[g] = if t.committing = _ then _ else (t.programmes[g]).status
      rw [PageStore.committing, commit, programmes]
      exact pages g
    · show s.queue.plantCommitting = (t.committing == _)
      rw [PageStore.committing, commit]
      exact committing
  store := by
    intro sound
    obtain ⟨pages, content, -, target⟩ := id sound
    refine ⟨?_, ?_, staging sound, ?_⟩
    · show ∀ g : Fin 8, (t.programmes[g]).marker = false ∨ _ → _
      rw [programmes]
      exact pages
    · show t.plant.marker = false ∨ _ → _
      rw [plant]
      exact content
    · show ∀ x ∈ t.commit, _
      rw [commit]
      exact target
  washes _ w := by
    refine w.congr rfl rfl (fun _ => id) rfl fun g usable => ?_
    show (t.programmes[g]).valid = true
    rw [programmes]
    exact w.usable g usable

/-- What is owed, and live PAGE_INVALID, stand beside every agreement of the Page Store. -/
theorem OuterMove.of_owed (s : State) (owed : Option (Port × PageId)) (invalid : Bool) :
    OuterMove s { s with store := { s.store with owedDone := owed, pageInvalid := invalid } } :=
  .of_store _ rfl rfl rfl id fun sound => sound.2.2.1

theorem State.noticeSent_outer (n : Notice) (s : State) : OuterMove s (s.noticeSent n) := by
  cases n with
  | slot i =>
    refine InnerMove.outer (.setSlot s i _ ?_ ?_)
    · rfl
    · exact fun n p => p.congr rfl rfl rfl rfl rfl p.running id
  | washEnd f => exact (State.setFilter_inner f _ s).outer
  | commitDone => exact .of_owed s none s.store.pageInvalid

theorem State.enterNotice_outer (n : Notice) (s : State) : OuterMove s (s.enterNotice n) := by
  obtain h | ⟨p, fr, frame, place, h⟩ := State.enterNotice_cases n s
  · rw [h]
    exact .refl s
  · rw [h]
    exact (State.sendFrame_outer p fr s place (State.noticeFrame_payload frame)).trans
      (State.noticeSent_outer n _)

theorem NoticesEntered.outer {s t : State} (h : NoticesEntered s t) : OuterMove s t := by
  induction h with
  | nothing => exact .refl s
  | chose u _ ih => exact ih.trans u.chosen_outer
  | entered u n _ ih => exact ih.trans (State.enterNotice_outer n u)

theorem State.offerAll_outer (s : State) : OuterMove s s.offerAll := (noticesEntered_offerAll s).outer

theorem State.depart_outer (p : Port) (s : State) : OuterMove s (s.depart p) := by
  unfold State.depart
  split
  · exact .refl s
  · next fr rest h =>
    have freed : OuterMove s (s.setPort p { s.port p with outbound := rest }) := by
      refine .setPort s p _ ⟨rfl, rfl, id, fun ⟨inbound, outbound, payloads⟩ => ?_⟩
      rw [h] at outbound payloads
      exact ⟨inbound, (Nat.le_succ _).trans outbound, fun x hx => payloads x (List.mem_cons_of_mem _ hx)⟩
    exact freed.trans (.foldl _ _ _ fun t q => (State.offerFreed_spec q t).1.outer)

/-! ### Attachment -/

/-- The covered set is handed on as the ports have it, and what follows is a move of the inner blocks
(R155). -/
theorem State.handCoverage_inner (s : State) :
    InnerMove { s with queue := { s.queue with covered := s.coverage } } s.handCoverage := by
  unfold State.handCoverage
  extract_lets q before now t
  split
  · next h =>
    have e : { s with queue := { s.queue with covered := s.coverage } } = s := by
      rw [show s.coverage = s.queue.covered from h]
    rw [e]
    exact .refl s
  · exact (State.slotsPresence_inner before t).trans (State.rotate_inner _)

theorem Bounds.shares_comm (b c : Bounds) : b.shares c = c.shares b := by
  simp only [Bounds.shares, Bool.and_comm]

/-- A port takes a new attachment apart from those of the others, which leaves the latch with a supervisor,
and the covered set is what the ports then cover (R155 to R157). -/
theorem OuterMove.reattach {s : State} (p : Port) (r : PortRec) (fits : (s.port p).Fits → r.Fits)
    (bounds : r.bounds.isSome = (r.role == some .gallery)) (silence : r.silenceTimer.isSome = r.attached)
    (apart : s.PortsApart → ∀ q, q ≠ p → ∀ b c, r.bounds = some b → (s.port q).bounds = some c →
      b.shares c = false)
    (latch : s.store.latch = some p → r.role = some .supervisor) :
    OuterMove s { s.setPort p r with
      queue := { (s.setPort p r).queue with covered := (s.setPort p r).coverage } } := by
  let t : State := { s.setPort p r with
    queue := { (s.setPort p r).queue with covered := (s.setPort p r).coverage } }
  have port : ∀ q, t.port q = if q = p then r else s.port q := by
    intro q
    refine (State.port_congr (s := s.setPort p r) (t := t) rfl q).trans ?_
    split
    · next h => rw [h, State.port_setPort_self]
    · next h => exact State.port_setPort_other _ _ _ _ h
  have slots : ∀ i, t.slot i = s.slot i := fun i =>
    (show t.slot i = (s.setPort p r).slot i by cases i <;> rfl).trans (State.slot_setPort s p r i)
  have store : t.store = s.store := State.setPort_store s p r
  have queue : (s.setPort p r).queue = s.queue := State.setPort_queue s p r
  change OuterMove s t
  constructor
  case journal => simp [t]
  case fit =>
    intro k q
    change (t.port q).Fits
    rw [port q]
    split
    · next h => exact fits (h ▸ k q)
    · exact k q
  case apart =>
    rintro ⟨attached, others, covered⟩
    have new := apart ⟨attached, others, covered⟩
    refine ⟨fun q => ?_, fun q q' b c hq hb hc => ?_, ?_⟩
    · rw [port q]
      split
      · exact ⟨bounds, silence⟩
      · exact attached q
    · rw [port q] at hb
      rw [port q'] at hc
      by_cases h : q = p
      · have h' : q' ≠ p := fun e => hq (h.trans e.symm)
        rw [if_pos h] at hb
        rw [if_neg h'] at hc
        exact new q' h' b c hb hc
      · rw [if_neg h] at hb
        by_cases h' : q' = p
        · rw [if_pos h'] at hc
          rw [Bounds.shares_comm]
          exact new q h c b hc hb
        · rw [if_neg h'] at hc
          exact others q q' b c hq hb hc
    · exact (State.coverage_of_ports (s := s.setPort p r) rfl).symm
  case supervised =>
    rintro ⟨role, rest⟩
    refine ⟨fun q hq => ?_, store ▸ rest⟩
    rw [store] at hq
    rw [port q]
    split
    · next h => exact latch (h ▸ hq)
    · exact role q hq
  case status =>
    rintro ⟨pages, committing⟩
    refine ⟨fun g => ?_, ?_⟩
    · show (s.setPort p r).queue.pageStatus[g] = _
      rw [queue, store]
      exact pages g
    · show (s.setPort p r).queue.plantCommitting = _
      rw [queue, store]
      exact committing
  case store => exact fun sound => store ▸ sound
  case washes =>
    intro _ w
    refine w.mono (fun i _ k => (slots i).symm ▸ k) (fun i => congrArg Slot.state (slots i)) ?_ ?_ ?_ ?_
    · simp [t]
    · simp [t]
    · simp [t]
    · simp [t]

/-- A released latch, and a COMMIT_DONE dropped, leave every agreement of the Page Store (R137, R141). -/
theorem OuterMove.of_released {s : State} (t : PageStore) (programmes : t.programmes = s.store.programmes)
    (plant : t.plant = s.store.plant) (commit : t.commit = s.store.commit)
    (edit : t.latch = s.store.latch ∧ t.staging = s.store.staging ∨ t.latch = none ∧ t.staging = none) :
    OuterMove s { s with store := t } := by
  refine .of_store t programmes plant commit (fun ⟨role, staging, free⟩ => ?_) fun sound => ?_
  · obtain ⟨latch, staged⟩ | ⟨latch, staged⟩ := edit
    · refine ⟨fun p hp => role p (latch ▸ hp), ?_, fun hc => latch.trans (free (commit ▸ hc))⟩
      show t.staging.isSome = t.latch.isSome
      rw [latch, staged]
      exact staging
    · refine ⟨fun p hp => ?_, ?_, fun _ => latch⟩
      · rw [show t.latch = some p from hp] at latch
        cases latch
      · show t.staging.isSome = t.latch.isSome
        rw [latch, staged]
        rfl
  · obtain ⟨-, staged⟩ | ⟨-, staged⟩ := edit
    · rw [staged]
      exact sound.2.2.1
    · simp [staged]

/-- A port takes a new attachment and its latch is released, or kept by a supervisor; then the covered set is
handed on (R155 to R157). -/
theorem State.attachment_outer {s : State} (p : Port) (r : PortRec) (t : PageStore)
    (inbound : r.inbound = (s.port p).inbound) (outbound : r.outbound = (s.port p).outbound)
    (bounds : r.bounds.isSome = (r.role == some .gallery)) (silence : r.silenceTimer.isSome = r.attached)
    (apart : s.PortsApart → ∀ q, q ≠ p → ∀ b c, r.bounds = some b → (s.port q).bounds = some c →
      b.shares c = false)
    (programmes : t.programmes = s.store.programmes) (plant : t.plant = s.store.plant)
    (commit : t.commit = s.store.commit)
    (edit : t.latch = s.store.latch ∧ t.staging = s.store.staging ∨ t.latch = none ∧ t.staging = none)
    (latch : t.latch = some p → r.role = some .supervisor) :
    OuterMove s (State.handCoverage { s.setPort p r with store := t }) ∧
      (State.handCoverage { s.setPort p r with store := t }).ports = (s.setPort p r).ports := by
  have e : { s.setPort p r with store := t } = State.setPort p r { s with store := t } := by
    cases p <;> rfl
  have port : ∀ q, State.port { s with store := t } q = s.port q := State.port_congr rfl
  have released := OuterMove.of_released t programmes plant commit edit
  have handed := State.handCoverage_inner (State.setPort p r { s with store := t })
  rw [e]
  refine ⟨(released.trans (.reattach p r ?_ bounds silence ?_ latch)).trans handed.outer, ?_⟩
  · rw [port p]
    exact fun ⟨i, o, pl⟩ => ⟨inbound ▸ i, outbound ▸ o, outbound ▸ pl⟩
  · intro k q hq b c hb hc
    exact apart ⟨fun q => port q ▸ k.1 q, fun q q' => port q ▸ port q' ▸ k.2.1 q q', k.2.2⟩ q hq b c hb
      (port q ▸ hc)
  · rw [handed.ports, ← e]

theorem State.outbound_of_setPort {s t : State} {p : Port} {r : PortRec} (h : t.ports = (s.setPort p r).ports)
    (outbound : r.outbound = (s.port p).outbound) : (t.port p).outbound = (s.port p).outbound := by
  rw [State.port_congr h p, State.port_setPort_self]
  exact outbound

/-- The edit latch, after its release where the port holds it (R137). -/
theorem PageStore.releaseLatchOf_cases (p : Port) (t : PageStore) :
    (t.releaseLatchOf p = t ∧ t.latch ≠ some p) ∨ t.releaseLatchOf p = t.releaseLatch := by
  unfold PageStore.releaseLatchOf
  split
  · exact .inr rfl
  · next h => exact .inl ⟨rfl, h⟩

/-- An accepted ATTACH as a supervisor, or in GALLERY role apart from the other ports (R155). -/
theorem State.acceptAttach_outer (p : Port) (role : Role) (bounds : Option Bounds) (limit : Nat) (s : State)
    (hb : bounds.isSome = (role == .gallery))
    (apart : s.PortsApart → ∀ q, q ≠ p → ∀ b c, bounds = some b → (s.port q).bounds = some c →
      b.shares c = false) :
    OuterMove s (s.acceptAttach p role bounds limit) ∧
      ((s.acceptAttach p role bounds limit).port p).outbound = (s.port p).outbound := by
  let r : PortRec := { s.port p with
    role := some role, bounds := bounds, silenceLimit := limit, silenceTimer := some limit }
  have hbr : r.bounds.isSome = (r.role == some .gallery) := hb.trans (by cases role <;> rfl)
  have go := fun t => State.attachment_outer (s := s) p r t rfl rfl hbr rfl apart
  cases role with
  | supervisor =>
    have e : { s.setPort p r with store := s.store } = s.setPort p r := by cases p <;> rfl
    obtain ⟨outer, ports⟩ := go s.store rfl rfl rfl (.inl ⟨rfl, rfl⟩) fun _ => rfl
    rw [e] at outer ports
    exact ⟨outer, State.outbound_of_setPort ports rfl⟩
  | gallery =>
    have e : s.acceptAttach p .gallery bounds limit =
        State.handCoverage { s.setPort p r with store := s.store.releaseLatchOf p } := by
      cases p <;> rfl
    rw [e]
    obtain ⟨h, held⟩ | h := s.store.releaseLatchOf_cases p
    · rw [h]
      obtain ⟨outer, ports⟩ := go s.store rfl rfl rfl (.inl ⟨rfl, rfl⟩) fun k => absurd k held
      exact ⟨outer, State.outbound_of_setPort ports rfl⟩
    · rw [h]
      obtain ⟨outer, ports⟩ := go s.store.releaseLatch rfl rfl rfl (.inr ⟨rfl, rfl⟩)
        fun k => by simp [PageStore.releaseLatch] at k
      exact ⟨outer, State.outbound_of_setPort ports rfl⟩

theorem PageStore.dropDoneOf_eq (p : Port) (t : PageStore) :
    ∃ owed, t.dropDoneOf p = { t with owedDone := owed } := by
  unfold PageStore.dropDoneOf
  split
  · split <;> exact ⟨_, rfl⟩
  · exact ⟨_, rfl⟩

/-- A port becomes UNATTACHED (R156, R157). -/
theorem State.unattach_outer (p : Port) (s : State) :
    OuterMove s (s.unattach p) ∧ ((s.unattach p).port p).outbound = (s.port p).outbound := by
  let r : PortRec := { s.port p with role := none, bounds := none, silenceTimer := none }
  have e : s.unattach p =
      State.handCoverage { s.setPort p r with store := (s.store.releaseLatchOf p).dropDoneOf p } := by
    cases p <;> rfl
  obtain ⟨owed, ho⟩ := (s.store.releaseLatchOf p).dropDoneOf_eq p
  have go := fun t => State.attachment_outer (s := s) p r t rfl rfl rfl rfl fun _ _ _ _ _ k => by cases k
  rw [e, ho]
  obtain ⟨h, held⟩ | h := s.store.releaseLatchOf_cases p
  · rw [h]
    obtain ⟨outer, ports⟩ := go { s.store with owedDone := owed } rfl rfl rfl (.inl ⟨rfl, rfl⟩)
      fun k => absurd k held
    exact ⟨outer, State.outbound_of_setPort ports rfl⟩
  · rw [h]
    obtain ⟨outer, ports⟩ := go { s.store.releaseLatch with owedDone := owed } rfl rfl rfl
      (.inr ⟨rfl, rfl⟩) fun k => by simp [PageStore.releaseLatch] at k
    exact ⟨outer, State.outbound_of_setPort ports rfl⟩

theorem State.silenceExpiry_outer (p : Port) (s : State) : OuterMove s (s.silenceExpiry p) := by
  unfold State.silenceExpiry
  split
  · exact (State.unattach_outer p s).1.trans (State.latchFlag_inner _ _).outer
  · exact .refl s

end Sys2Proof.Machine

/-! PROOFS. What an EDIT_WRITE item, a stored page and a consistent staging page hold (R64, R136, R139). -/

namespace Sys2Proof.Machine

/-! ### Contents in range -/

@[simp] theorem inRange_iff (lo hi v : Nat) : inRange lo hi v = true ↔ lo ≤ v ∧ v ≤ hi := by
  simp [inRange]

@[simp] theorem zeroOr_iff (lo hi v : Nat) : zeroOr lo hi v = true ↔ v = 0 ∨ lo ≤ v ∧ v ≤ hi := by
  simp [zeroOr]

theorem StepRec.blank_staged : StepRec.blank.Staged := by
  simp [StepRec.Staged, StepRec.blank]

theorem StepRec.InRange.staged {x : StepRec} (h : x.InRange) : x.Staged := by
  obtain ⟨duration, repeats, rate, clear⟩ := h
  refine ⟨duration, repeats, ?_, fun k => ?_, fun k => ?_, ?_, ?_⟩
  · split at rate <;> omega
  · simpa [k] using rate
  · simpa [k] using clear
  · split at clear
    · exact .inr clear.1
    · exact .inl clear.1
  · split at clear
    · exact .inr clear.2
    · exact .inl clear.2

theorem StepRec.setKind_staged {x : StepRec} (k : StepKind) (h : x.Staged) : (x.setKind k).Staged := by
  obtain ⟨duration, repeats, rate, -, -, ripen, hold⟩ := h
  have hr : k.hasRate = k.isWater := rfl
  have hc : k.hasClear = (k == .waste) := rfl
  simp only [StepRec.setKind, hr, hc, beq_iff_eq]
  refine ⟨duration, repeats, ?_, fun e => ?_, fun e => ?_, ?_, ?_⟩
  · dsimp only
    split <;> omega
  · simpa using fun w => absurd w (by simpa using e)
  · exact ⟨if_neg e, if_neg e⟩
  · dsimp only
    split <;> simp [ripen]
  · dsimp only
    split <;> simp [hold]

/-- A step field that EDIT_WRITE accepts leaves the step inside its ranges (R136). -/
theorem StepRec.write_staged {x y : StepRec} {ident value : Nat} (h : x.Staged)
    (w : x.write ident value = some y) : y.Staged := by
  unfold StepRec.write at w
  split at w
  · obtain ⟨k, -, rfl⟩ := Option.map_eq_some_iff.1 w
    exact StepRec.setKind_staged k h
  all_goals
    obtain ⟨duration, repeats, rate, dry, clear, ripen, hold⟩ := h
    simp only [Option.ite_none_right_eq_some, Option.some.injEq, inRange_iff, zeroOr_iff, Bool.and_eq_true,
      Bool.or_eq_true, beq_iff_eq, reduceCtorEq] at w
  · obtain ⟨c, rfl⟩ := w
    exact ⟨c, repeats, rate, dry, clear, ripen, hold⟩
  · obtain ⟨⟨c, k⟩, rfl⟩ := w
    refine ⟨duration, repeats, c.2, fun e => k.resolve_right ?_, clear, ripen, hold⟩
    simpa [StepKind.hasRate] using e
  · obtain ⟨c, rfl⟩ := w
    exact ⟨duration, c, rate, dry, clear, ripen, hold⟩
  · obtain ⟨⟨c, k⟩, rfl⟩ := w
    refine ⟨duration, repeats, rate, dry, fun e => ⟨k.resolve_right ?_, (clear e).2⟩, c, hold⟩
    simpa [StepKind.hasClear] using e
  · obtain ⟨⟨c, k⟩, rfl⟩ := w
    refine ⟨duration, repeats, rate, dry, fun e => ⟨(clear e).1, k.resolve_right ?_⟩, ripen, c⟩
    simpa [StepKind.hasClear] using e

theorem writeProgramme_inRange {it : EditItem} {g : Fin 8} {count : Nat} {steps : List StepRec} {y : Staged}
    (h : (Staged.programme g count steps).InRange) (w : writeProgramme it g count steps = some y) :
    y.InRange := by
  obtain ⟨bound, length, staged⟩ := h
  unfold writeProgramme at w
  split at w
  · simp only [Option.ite_none_right_eq_some, Option.some.injEq, inRange_iff] at w
    obtain ⟨⟨-, c⟩, rfl⟩ := w
    exact ⟨c, length, staged⟩
  · simp only [Option.ite_none_right_eq_some] at w
    obtain ⟨position, w⟩ := w
    obtain ⟨x, hx, rfl⟩ := Option.map_eq_some_iff.1 w
    have old : (steps.getD it.index StepRec.blank).Staged := by
      rw [List.getD_eq_getElem _ _ (by rw [length]; exact position)]
      exact staged _ (List.getElem_mem _)
    refine ⟨bound, by rw [List.length_set, length], fun z hz => ?_⟩
    obtain hz | rfl := List.mem_or_eq_of_mem_set hz
    · exact staged z hz
    · exact StepRec.write_staged old hx

theorem FilterCfg.write_inRange {x y : FilterCfg} {ident value : Nat} (h : x.InRange)
    (w : x.write ident value = some y) : y.InRange := by
  obtain ⟨area, headloss, turbidity, run⟩ := h
  unfold FilterCfg.write at w
  split at w <;>
    simp only [Option.ite_none_right_eq_some, Option.dite_none_right_eq_some, Option.some.injEq, inRange_iff,
      reduceCtorEq] at w
  all_goals
    obtain ⟨c, rfl⟩ := w
  · exact ⟨area, headloss, turbidity, run⟩
  · exact ⟨c, headloss, turbidity, run⟩
  · exact ⟨area, headloss, turbidity, run⟩
  · exact ⟨area, c, turbidity, run⟩
  · exact ⟨area, headloss, c, run⟩
  · exact ⟨area, headloss, turbidity, c⟩

theorem ChannelCfg.write_inRange {x y : ChannelCfg} {ident value : Nat} (h : x.InRange)
    (w : x.write ident value = some y) : y.InRange := by
  obtain ⟨exponent, zero, span⟩ := h
  unfold ChannelCfg.write at w
  split at w <;>
    simp only [Option.ite_none_right_eq_some, Option.some.injEq, inRange_iff, reduceCtorEq] at w
  all_goals
    obtain ⟨c, rfl⟩ := w
  · exact ⟨c.2, zero, span⟩
  · exact ⟨exponent, c.2, span⟩
  · exact ⟨exponent, zero, c⟩

/-- A row with one value that EDIT_WRITE accepts leaves the plant page inside its ranges: the row by the check
it passed, and the others as they were (R136). -/
theorem PlantPage.writeScalar_inRange {q r : PlantPage} {ident v : Nat} (h : q.InRange)
    (w : q.writeScalar ident v = some r) : r.InRange := by
  have mode0 : ∀ m, PlantPage.InRange { q with alert0Mode := m } := fun _ => h
  have mode1 : ∀ m, PlantPage.InRange { q with alert1Mode := m } := fun _ => h
  have policy : ∀ m, PlantPage.InRange { q with shortfallPolicy := m } := fun _ => h
  unfold PlantPage.writeScalar at w
  split at w
  case h_16 =>
    split at w
    · cases w
      exact policy _
    · cases w
      exact policy _
    · cases w
  case h_24 =>
    obtain ⟨m, -, rfl⟩ := Option.map_eq_some_iff.1 w
    exact mode0 m
  case h_26 =>
    obtain ⟨m, -, rfl⟩ := Option.map_eq_some_iff.1 w
    exact mode1 m
  case h_27 => cases w
  all_goals
    obtain ⟨filters, thresholds, stale, floor, concurrent, spacing, pump, tank, reserve, basin, maximum, stall,
      travel, rampStart, rampInterval, lowFlow, grace, wait, halt, channels, lowLow, on, off⟩ := h
    simp only [Option.ite_none_right_eq_some, Option.some.injEq, inRange_iff, Nat.zero_le, true_and] at w
    obtain ⟨c, rfl⟩ := w
    refine ⟨filters, thresholds, ?_, ?_, ?_, ?_, ?_, ?_, ?_, ?_, ?_, ?_, ?_, ?_, ?_, ?_, ?_, ?_, ?_, channels,
      ?_, ?_, ?_⟩ <;> assumption

/-- A due threshold that EDIT_WRITE accepts (row 7 of Table 8-3). -/
theorem PlantPage.writeThreshold_inRange {q r : PlantPage} {index v : Nat} (h : q.InRange)
    (w : q.writeThreshold index v = some r) : r.InRange := by
  obtain ⟨filters, thresholds, rest⟩ := h
  unfold PlantPage.writeThreshold at w
  simp only [Option.ite_none_right_eq_some, inRange_iff] at w
  obtain ⟨c, w⟩ := w
  split at w
  case h_4 => cases w
  all_goals
    cases w
    refine ⟨filters, fun d => ?_, rest⟩
  · cases d with
    | normal => exact c
    | elevated => exact thresholds .elevated
    | flood => exact thresholds .flood
  · cases d with
    | normal => exact thresholds .normal
    | elevated => exact c
    | flood => exact thresholds .flood
  · cases d with
    | normal => exact thresholds .normal
    | elevated => exact thresholds .elevated
    | flood => exact c

/-- A channel field that EDIT_WRITE accepts (rows 26 to 28 of Table 8-3). -/
theorem PlantPage.writeChannel_inRange {q r : PlantPage} {ident index v : Nat} (h : q.InRange)
    (w : q.writeChannel ident index v = some r) : r.InRange := by
  obtain ⟨filters, thresholds, stale, floor, concurrent, spacing, pump, tank, reserve, basin, maximum, stall,
    travel, rampStart, rampInterval, lowFlow, grace, wait, halt, channels, rest⟩ := h
  have keep : ∀ p : PlantPage, (∀ c, (p.channelCfg c).InRange) →
      p = { q with tankCfg := p.tankCfg, flowCfg := p.flowCfg, basinCfg := p.basinCfg } → p.InRange := by
    intro p new e
    rw [e]
    exact ⟨filters, thresholds, stale, floor, concurrent, spacing, pump, tank, reserve, basin, maximum, stall,
      travel, rampStart, rampInterval, lowFlow, grace, wait, halt, new, rest⟩
  unfold PlantPage.writeChannel at w
  split at w
  case h_4 => cases w
  all_goals
    obtain ⟨x, hx, rfl⟩ := Option.map_eq_some_iff.1 w
    refine keep _ (fun d => ?_) rfl
  · cases d with
    | tank => exact ChannelCfg.write_inRange (channels .tank) hx
    | flow => exact channels .flow
    | basin => exact channels .basin
  · cases d with
    | tank => exact channels .tank
    | flow => exact ChannelCfg.write_inRange (channels .flow) hx
    | basin => exact channels .basin
  · cases d with
    | tank => exact channels .tank
    | flow => exact channels .flow
    | basin => exact ChannelCfg.write_inRange (channels .basin) hx

theorem PlantPage.write_inRange {q r : PlantPage} {it : EditItem} (h : q.InRange)
    (w : q.write it = some r) : r.InRange := by
  unfold PlantPage.write at w
  split at w
  · split at w
    · next position =>
      obtain ⟨x, hx, rfl⟩ := Option.map_eq_some_iff.1 w
      obtain ⟨filters, rest⟩ := h
      refine ⟨fun f => ?_, rest⟩
      have new := FilterCfg.write_inRange (filters ⟨it.index, position⟩) hx
      show (((q.filters.set it.index x)[f.val])).InRange
      rw [Vector.getElem_set]
      split
      · exact new
      · exact filters f
    · cases w
  · split at w
    · exact PlantPage.writeThreshold_inRange h w
    · split at w
      · exact PlantPage.writeChannel_inRange h w
      · simp only [Option.ite_none_right_eq_some] at w
        exact PlantPage.writeScalar_inRange h w.2

theorem Staged.write_inRange {x y : Staged} {it : EditItem} (h : x.InRange) (w : x.write it = some y) :
    y.InRange := by
  cases x with
  | programme g count steps => exact writeProgramme_inRange h w
  | plant q =>
    obtain ⟨r, hr, rfl⟩ := Option.map_eq_some_iff.1 w
    exact PlantPage.write_inRange h hr

/-- A list of accepted items leaves the staging page inside its ranges (R136). -/
theorem Staged.writeAll_inRange {its : List EditItem} {x y : Staged} (h : x.InRange)
    (w : x.writeAll its = some y) : y.InRange := by
  induction its generalizing x with
  | nil =>
    cases w
    exact h
  | cons it its ih =>
    obtain ⟨z, hz, rest⟩ := Option.bind_eq_some_iff.1 w
    exact ih (Staged.write_inRange h hz) rest

/-! ### Opening and committing -/

theorem factoryProgramme_sound : ProgrammeSound factoryProgramme := by
  refine ⟨by decide, ?_, by decide, by decide⟩
  simp [factoryProgramme, StepRec.InRange, StepKind.isWater]

theorem PlantPage.factory_inRange : PlantPage.factory.InRange := by
  refine ⟨fun f => ?_, fun c => ?_, by decide, by decide, by decide, by decide, by decide, by decide, by decide,
    by decide, by decide, by decide, by decide, by decide, by decide, by decide, by decide, by decide, by decide,
    fun c => ?_, by decide, by decide, by decide⟩
  · have e : PlantPage.factory.filters[f] = FilterCfg.factory := by simp [PlantPage.factory]
    rw [e]
    exact ⟨by decide, by decide, by decide, by decide⟩
  · cases c <;> decide
  · cases c <;> exact ⟨by decide, by decide, by decide, by decide⟩

theorem stagedSteps_inRange (g : Fin 8) {steps : List StepRec} (h : ProgrammeSound steps) :
    (Staged.programme g steps.length (stagedSteps steps)).InRange := by
  obtain ⟨bound, ranges, -⟩ := h
  refine ⟨bound, ?_, fun x hx => ?_⟩
  · simp only [stagedSteps, List.length_append, List.length_replicate]
    omega
  · obtain hx | hx := List.mem_append.1 hx
    · exact (ranges x hx).staged
    · rw [List.eq_of_mem_replicate hx]
      exact StepRec.blank_staged

/-- What EDIT_OPEN loads is inside the ranges (R135). -/
theorem PageStore.load_inRange {t : PageStore} (h : t.Sound) (g : PageId) : (t.load g).InRange := by
  obtain ⟨pages, plant, -⟩ := h
  cases g with
  | programme g =>
    refine stagedSteps_inRange g ?_
    split
    · next valid => exact pages g (.inr valid)
    · exact factoryProgramme_sound
  | plant =>
    show PlantPage.InRange _
    split
    · next valid => exact (plant (.inr valid)).1
    · exact PlantPage.factory_inRange

/-- A staged step that passes the checks of R139 is in range for its kind (R64). -/
theorem StepRec.Staged.inRange {x : StepRec} (h : x.Staged)
    (water : x.kind.isWater = true → 1 ≤ x.rate ∧ x.rate ≤ 900)
    (waste : x.kind = .waste →
      (20 ≤ x.ripenLimit ∧ x.ripenLimit ≤ 1000) ∧ 30 ≤ x.clearHold ∧ x.clearHold ≤ 600) : x.InRange := by
  obtain ⟨duration, repeats, -, dry, clear, -, -⟩ := h
  refine ⟨duration, repeats, ?_, ?_⟩
  · split
    · next k => exact water k
    · next k => exact dry (by simpa using k)
  · split
    · next k => exact waste k
    · next k => exact clear k

/-- A staging page that passes the checks of a commit has a sound content (R64, R139). -/
theorem Staged.target_sound {x : Staged} (h : x.InRange) (c : x.consistent = true) : x.target.Sound := by
  cases x with
  | programme g count steps =>
    obtain ⟨⟨least, most⟩, length, staged⟩ := h
    simp only [Staged.consistent, programmeConsistent, Bool.and_eq_true, List.all_eq_true, List.any_eq_true,
      Bool.or_eq_true, Bool.not_eq_true', bne_iff_ne, inRange_iff] at c
    obtain ⟨⟨⟨water, waste⟩, last⟩, wet⟩ := c
    refine ⟨?_, fun x hx => ?_, last, wet⟩
    · rw [List.length_take, length]
      omega
    · refine StepRec.Staged.inRange (staged x (List.mem_of_mem_take hx)) (fun k => ?_) fun k => ?_
      · exact (water x hx).resolve_left (by simp [k])
      · exact (waste x hx).resolve_left (by simp [k])
  | plant q =>
    simp only [Staged.consistent, PlantPage.consistent, Bool.and_eq_true, decide_eq_true_eq] at c
    obtain ⟨⟨⟨elevated, flood⟩, low⟩, refill⟩ := c
    exact ⟨h, elevated, flood, low, refill⟩

end Sys2Proof.Machine

/-! PROOFS. Moves of the part: the start and the completion of a commit. -/

namespace Sys2Proof.Machine

/-! ### The start of a commit -/

theorem Staged.target_page (x : Staged) : x.target.page = x.page := by cases x <;> rfl

/-- Marking a page changes no content, no validity, and nothing but that page's marker (R140). -/
theorem PageStore.mark_programme (t : PageStore) (page : PageId) (g : Fin 8) :
    ((t.mark page).programmes[g]).steps = (t.programmes[g]).steps ∧
      ((t.mark page).programmes[g]).valid = (t.programmes[g]).valid ∧
      (((t.mark page).programmes[g]).marker = false → (t.programmes[g]).marker = false) := by
  cases page with
  | plant => exact ⟨rfl, rfl, id⟩
  | programme n =>
    by_cases h : n = g
    · subst h
      simp [PageStore.mark]
    · have h' : n.val ≠ g.val := fun e => h (Fin.ext e)
      simp [PageStore.mark, Vector.getElem_set_ne, h']

theorem PageStore.mark_plant (t : PageStore) (page : PageId) :
    (t.mark page).plant.content = t.plant.content ∧ (t.mark page).plant.valid = t.plant.valid ∧
      ((t.mark page).plant.marker = false → t.plant.marker = false) := by
  cases page with
  | programme n => exact ⟨rfl, rfl, id⟩
  | plant => exact ⟨rfl, rfl, fun k => by simp [PageStore.mark] at k⟩

theorem PageStore.mark_sound {t : PageStore} (h : t.Sound) (page : PageId) : (t.mark page).Sound := by
  obtain ⟨pages, plant, rest⟩ := h
  refine ⟨fun g k => ?_, fun k => ?_, ?_⟩
  · obtain ⟨steps, valid, marker⟩ := t.mark_programme page g
    rw [steps]
    exact pages g (k.imp marker (valid ▸ id))
  · obtain ⟨content, valid, marker⟩ := t.mark_plant page
    rw [content]
    exact plant (k.imp marker (valid ▸ id))
  · cases page <;> exact rest

/-- The queue takes a commit's start: the target is COMMITTING, and the status of every other page stands
(R39, R140). -/
theorem WashQueue.commitStarts_status (q : WashQueue) (page : PageId) (g : Fin 8) :
    (q.commitStarts page).pageStatus[g] =
      if page = .programme g then .committing else q.pageStatus[g] := by
  cases page with
  | plant => rfl
  | programme n =>
    by_cases h : n = g
    · subst h
      simp [WashQueue.commitStarts]
    · have h' : n.val ≠ g.val := fun e => h (Fin.ext e)
      simp [WashQueue.commitStarts, Vector.getElem_set_ne, h', h]

theorem WashQueue.commitStarts_plant (q : WashQueue) (page : PageId) :
    (q.commitStarts page).plantCommitting = (q.plantCommitting || page == .plant) := by
  cases page <;> simp [WashQueue.commitStarts]

/-- A commit starts with a consistent staging page, where none is in progress (R138 to R140). -/
theorem State.startCommit_outer (p : Port) (x : Staged) (s : State) (idle : s.store.commit = none)
    (staged : s.store.staging = some x) (consistent : x.consistent = true) :
    OuterMove s (s.startCommit p x) ∧ (s.startCommit p x).ports = s.ports := by
  let t : State := { s with
    store := { (s.store.mark x.page).releaseLatch with commit := some (x.target, p) }
    queue := s.queue.commitStarts x.page }
  have rotated : InnerMove t (s.startCommit p x) := State.rotate_inner t
  have programme := s.store.mark_programme x.page
  have none_ : s.store.committing = none := by simp [PageStore.committing, idle]
  refine ⟨OuterMove.trans ?_ rotated.outer, rotated.ports⟩
  constructor
  case journal => exact id
  case fit => exact id
  case apart =>
    rintro ⟨attached, apart, covered⟩
    have same : t.queue.covered = s.queue.covered := by
      cases hx : x.page <;> simp [t, hx, WashQueue.commitStarts]
    exact ⟨attached, apart, same.trans covered⟩
  case supervised => exact fun _ => ⟨nofun, rfl, fun _ => rfl⟩
  case status =>
    rintro ⟨pages, plant⟩
    rw [none_] at plant
    refine ⟨fun g => ?_, ?_⟩
    · have e := pages g
      rw [none_] at e
      have status : ((s.store.mark x.page).programmes[g]).status = (s.store.programmes[g]).status := by
        simp only [ProgrammePage.status, (programme g).2.1]
      show (s.queue.commitStarts x.page).pageStatus[g] =
        if some x.target.page = some (.programme g) then .committing
        else ((s.store.mark x.page).programmes[g]).status
      rw [WashQueue.commitStarts_status, Staged.target_page, status]
      by_cases k : x.page = .programme g <;> simp [k, e]
    · show (s.queue.commitStarts x.page).plantCommitting = (some x.target.page == some .plant)
      rw [WashQueue.commitStarts_plant, Staged.target_page, plant]
      simp
  case store =>
    intro sound
    obtain ⟨programmes, content, -⟩ := PageStore.mark_sound sound x.page
    refine ⟨programmes, content, nofun, fun y hy => ?_⟩
    cases hy
    exact Staged.target_sound (sound.2.2.1 x staged) consistent
  case washes =>
    refine fun _ w => w.congr rfl rfl (fun _ => id) rfl fun g usable => ?_
    have usable : (s.queue.commitStarts x.page).pageStatus[g] = .usable := usable
    rw [WashQueue.commitStarts_status] at usable
    split at usable
    · cases usable
    · exact (programme g).2.1.trans (w.usable g usable)

/-! ### The completion of a commit -/

theorem PageStore.writeTarget_programme (t : PageStore) (n : Fin 8) (steps : List StepRec) (g : Fin 8) :
    (t.writeTarget (.programme n steps)).programmes[g] =
      if n = g then ⟨steps, programmeCheck steps, false, true⟩ else t.programmes[g] := by
  by_cases h : n = g
  · subst h
    simp [PageStore.writeTarget]
  · have h' : n.val ≠ g.val := fun e => h (Fin.ext e)
    simp [PageStore.writeTarget, Vector.getElem_set_ne, h', h]

theorem PageStore.writeTarget_sound {t : PageStore} {target : CommitTarget} (h : t.Sound)
    (ht : target.Sound) : PageStore.Sound { t.writeTarget target with commit := none } := by
  obtain ⟨pages, plant, staging, -⟩ := h
  cases target with
  | programme n steps =>
    refine ⟨fun g k => ?_, plant, staging, fun x hx => by cases hx⟩
    have e := t.writeTarget_programme n steps g
    show ProgrammeSound ((t.writeTarget (.programme n steps)).programmes[g]).steps
    have k : ((t.writeTarget (.programme n steps)).programmes[g]).marker = false ∨
      ((t.writeTarget (.programme n steps)).programmes[g]).valid = true := k
    rw [e] at k ⊢
    split
    · exact ht
    · next h =>
      rw [if_neg h] at k
      exact pages g k
  | plant q => exact ⟨pages, fun _ => ht, staging, fun x hx => by cases hx⟩

theorem State.evalPageInvalid_shape (s : State) :
    ∃ u, s.evalPageInvalid =
      { s with store := { s.store with pageInvalid := s.store.anyInvalid }, status := u } := by
  obtain ⟨u, h⟩ := State.handLive_shape .pageInvalid s.store.pageInvalid s.store.anyInvalid
    { s with store := { s.store with pageInvalid := s.store.anyInvalid } }
  exact ⟨u, h⟩

/-- The Page Store's part of a completion writes the target, ends the commit, and touches beside the pages
only what is owed, PAGE_INVALID and the flags (R141). -/
theorem State.storeCompletes_shape (target : CommitTarget) (p : Port) (s : State) :
    ∃ owed invalid u, s.storeCompletes target p =
      { s with
        store := { s.store.writeTarget target with
          commit := none, owedDone := owed, pageInvalid := invalid }
        status := u } := by
  obtain ⟨u, h⟩ := State.evalPageInvalid_shape
    { s with store := { s.store.writeTarget target with commit := none } }
  unfold State.storeCompletes
  rw [h]
  extract_lets t
  split
  · exact ⟨_, _, u, rfl⟩
  · exact ⟨_, _, u, rfl⟩

/-- The queue has a completed page back (R39, R141, R142). -/
def WashQueue.pageBack (q : WashQueue) : CommitTarget → WashQueue
  | .programme g _ => { q with pageStatus := q.pageStatus.set g .usable }
  | .plant _ => { q with plantCommitting := false }

theorem WashQueue.pageBack_status (q : WashQueue) (target : CommitTarget) (g : Fin 8) :
    (q.pageBack target).pageStatus[g] =
      if target.page = .programme g then .usable else q.pageStatus[g] := by
  cases target with
  | plant _ => rfl
  | programme n steps =>
    by_cases h : n = g
    · subst h
      simp [WashQueue.pageBack, CommitTarget.page]
    · have h' : n.val ≠ g.val := fun e => h (Fin.ext e)
      simp [WashQueue.pageBack, CommitTarget.page, Vector.getElem_set_ne, h', h]

theorem WashQueue.pageBack_covered (q : WashQueue) (target : CommitTarget) :
    (q.pageBack target).covered = q.covered := by cases target <;> rfl

theorem PageStore.writeTarget_edit (t : PageStore) (target : CommitTarget) :
    (t.writeTarget target).latch = t.latch ∧ (t.writeTarget target).staging = t.staging := by
  cases target <;> exact ⟨rfl, rfl⟩

/-- A written page is VALID, and the validity of every other stands (R141). -/
theorem PageStore.writeTarget_valid (t : PageStore) (target : CommitTarget) (g : Fin 8) :
    ((t.writeTarget target).programmes[g]).valid =
      (decide (target.page = .programme g) || (t.programmes[g]).valid) := by
  cases target with
  | plant _ => simp [PageStore.writeTarget, CommitTarget.page]
  | programme n steps =>
    rw [PageStore.writeTarget_programme]
    by_cases h : n = g <;> simp [CommitTarget.page, h]

/-- The Page Store has completed its part and the queue has the page back, before what follows (R141,
R142). -/
theorem State.written_outer (s : State) (target : CommitTarget) (p : Port)
    (h : s.store.commit = some (target, p)) :
    OuterMove s { s.storeCompletes target p with
      queue := (s.storeCompletes target p).queue.pageBack target } := by
  obtain ⟨owed, invalid, u, e⟩ := State.storeCompletes_shape target p s
  rw [e]
  obtain ⟨latch, staging⟩ := s.store.writeTarget_edit target
  have busy : s.store.committing = some target.page := by simp [PageStore.committing, h]
  constructor
  case journal => exact id
  case fit => exact id
  case apart =>
    rintro ⟨attached, apart, covered⟩
    exact ⟨attached, apart, (WashQueue.pageBack_covered _ target).trans covered⟩
  case supervised =>
    rintro ⟨role, staged, -⟩
    refine ⟨fun q hq => role q (latch ▸ hq), ?_, nofun⟩
    show (s.store.writeTarget target).staging.isSome = (s.store.writeTarget target).latch.isSome
    rw [latch, staging]
    exact staged
  case status =>
    rintro ⟨pages, plant⟩
    refine ⟨fun g => ?_, ?_⟩
    · have e := pages g
      rw [busy] at e
      show (s.queue.pageBack target).pageStatus[g] = ((s.store.writeTarget target).programmes[g]).status
      rw [WashQueue.pageBack_status, ProgrammePage.status, PageStore.writeTarget_valid]
      by_cases k : target.page = .programme g
      · simp [k]
      · rw [if_neg k, e, if_neg (by simpa using k)]
        simp [k, ProgrammePage.status]
    · show (s.queue.pageBack target).plantCommitting = false
      rw [busy] at plant
      cases target with
      | plant _ => rfl
      | programme n steps => exact plant
  case store => exact fun sound => PageStore.writeTarget_sound sound (sound.2.2.2 _ h)
  case washes =>
    refine fun _ w => w.congr rfl rfl (fun _ => id) rfl fun g usable => ?_
    have usable : (s.queue.pageBack target).pageStatus[g] = .usable := usable
    show ((s.store.writeTarget target).programmes[g]).valid = true
    rw [WashQueue.pageBack_status] at usable
    rw [PageStore.writeTarget_valid]
    by_cases k : target.page = .programme g
    · simp [k]
    · rw [if_neg k] at usable
      rw [Bool.or_eq_true]
      exact .inr (w.usable g usable)

/-- A move that goes on beside a plant page commit does so once the queue has the page back (R142). -/
theorem InnerMove.withPlantBack {s t : State} (h : InnerMove s t) :
    InnerMove { s with queue := { s.queue with plantCommitting := false } }
      { t with queue := { t.queue with plantCommitting := false } } where
  ports := h.ports
  store := h.store
  pages := ⟨h.pages.covered, h.pages.pageStatus, rfl⟩
  journal := h.journal
  washes sound w := by
    have k : s.WashesPlaced none := w.congr rfl rfl (fun _ => id) rfl w.usable
    have l := h.washes sound k
    exact l.congr rfl rfl (fun _ => id) rfl l.usable

theorem State.evalAlerts_inner (s : State) : InnerMove s s.evalAlerts := .of_parts rfl

/-- A completed plant page is taken by the other blocks, in either order (R142). -/
theorem State.plantCompletes_inner (old : PlantPage) (s : State) :
    InnerMove { s with queue := { s.queue with plantCommitting := false } } (s.plantCompletes old) := by
  have chosen : InnerMove s s.chosen := .of_parts rfl
  refine InnerMove.trans ?_ (State.evalAlerts_inner _)
  obtain h | h := eitherOrder_cases State.tableCommit (State.monitorCommit old) s
  · rw [h]
    exact (chosen.withPlantBack.trans (State.tableCommit_inner _)).trans (State.monitorCommit_inner old _)
  · rw [h]
    exact (chosen.trans (State.monitorCommit_inner old _)).withPlantBack.trans (State.tableCommit_inner _)

/-- The completion of a commit (R141, R142). -/
theorem State.completeCommit_outer (s : State) : OuterMove s s.completeCommit := by
  unfold State.completeCommit
  split
  · exact .refl s
  · next target p h =>
    extract_lets old t
    have written := State.written_outer s target p h
    cases target with
    | programme g steps => exact written.trans (State.rotate_inner _).outer
    | plant q => exact written.trans (State.plantCompletes_inner old t).outer

end Sys2Proof.Machine

/-! PROOFS. The lengths of answers (Table 10-7). -/

namespace Sys2Proof.Machine

/-! ### The lengths of answers -/

@[simp] theorem length_u8 (n : Nat) : (u8 n).length = 1 := rfl

@[simp] theorem length_u16 (n : Nat) : (u16 n).length = 2 := rfl

@[simp] theorem length_u32 (n : Nat) : (u32 n).length = 4 := rfl

/-- The flag bytes that a number of flag bits take, for up to 24 bits (R159). -/
def flagBytes (n : Nat) : Nat := if n = 0 then 0 else if n ≤ 8 then 1 else if n ≤ 16 then 2 else 3

theorem length_packBits (bs : List Bool) : (packBits bs).length = flagBytes bs.length := by
  unfold packBits flagBytes
  split_ifs <;> simp

/-- The flag bits and the bytes of a field (R159). -/
def Field.size (x : Field) : Nat × Nat := (x.bits.length, x.body.length)

@[simp] theorem Field.size_flag (b : Bool) : (Field.flag b).size = (1, 0) := rfl

@[simp] theorem size_num1 (n : Nat) : (num1 n).size = (0, 1) := rfl

@[simp] theorem size_num2 (n : Nat) : (num2 n).size = (0, 2) := rfl

@[simp] theorem size_num4 (n : Nat) : (num4 n).size = (0, 4) := rfl

/-- An optional field takes its width whether it is present or not (R159). -/
theorem Field.size_opt {α : Type} (w : Nat) (v : Option α) (g : α → List Byte)
    (h : ∀ x, (g x).length = w) : (Field.opt w (v.map g)).size = (1, w) := by
  cases v <;> simp [Field.size, Field.bits, Field.body, h]

@[simp] theorem size_opt1 (v : Option Nat) : (opt1 v).size = (1, 1) := Field.size_opt 1 v u8 length_u8

@[simp] theorem size_opt2 (v : Option Nat) : (opt2 v).size = (1, 2) := Field.size_opt 2 v u16 length_u16

@[simp] theorem size_opt4 (v : Option Nat) : (opt4 v).size = (1, 4) := Field.size_opt 4 v u32 length_u32

/-- A record takes its flag bytes and the bytes of its fields (R159). -/
theorem length_encodeRecord (fs : List Field) :
    (encodeRecord fs).length =
      flagBytes (fs.map fun x => x.size.1).sum + (fs.map fun x => x.size.2).sum := by
  have bits : (fs.flatMap Field.bits).length = (fs.map fun x => x.size.1).sum := by
    rw [List.length_flatMap]
    rfl
  have body : (fs.flatMap Field.body).length = (fs.map fun x => x.size.2).sum := by
    rw [List.length_flatMap]
    rfl
  rw [encodeRecord, List.length_append, length_packBits, bits, body]

theorem length_pingRecord (p : Port) (r : PortRec) : (encodeRecord (pingFields p r)).length = 11 := by
  have bounds := Field.size_opt 2 r.bounds (fun b => u8 b.first.val ++ u8 b.last.val) fun _ => rfl
  simp [length_encodeRecord, pingFields, bounds, flagBytes]

theorem length_filterRecord (r : FilterRec) (c : RawClass) (n : Nat) :
    (encodeRecord (filterFields r c n)).length = 39 := by
  simp [length_encodeRecord, filterFields, flagBytes]

theorem length_queueTotals (s : State) : (encodeRecord s.queueTotals).length = 10 := by
  simp [length_encodeRecord, State.queueTotals, flagBytes]

theorem length_entryRecord (s : State) (n : Nat) (e : Entry) :
    (encodeRecord (s.entryFields n e)).length = 17 := by
  simp [length_encodeRecord, State.entryFields, flagBytes]

theorem length_admissionRecord (s : State) : (encodeRecord s.admissionFields).length = 28 := by
  simp [length_encodeRecord, State.admissionFields, flagBytes]

theorem size_requestField (r : Option Request) : (requestField r).size = (1, 6) :=
  Field.size_opt 6 r _ fun _ => rfl

theorem length_arbiterRecord (a : Arbiter) : (encodeRecord a.fields).length = 18 := by
  simp [length_encodeRecord, Arbiter.fields, size_requestField, flagBytes]

theorem length_slotRecord (s : State) (i : SlotId) : (encodeRecord (s.slotFields i)).length = 53 := by
  simp [length_encodeRecord, State.slotFields, flagBytes]

theorem length_channelRecord (r : ChannelRec) (c : ChannelCfg) :
    (encodeRecord (channelFields r c)).length = 18 := by
  simp [length_encodeRecord, channelFields, flagBytes]

theorem length_monitorRecord (s : State) : (encodeRecord s.monitorFields).length = 25 := by
  simp [length_encodeRecord, State.monitorFields, flagBytes]

theorem length_journalRecord (r : JournalRec) : (encodeRecord r.fields).length = 27 := by
  simp [length_encodeRecord, JournalRec.fields, flagBytes]

theorem length_statusRecord (s : State) : (encodeRecord s.statusFields).length = 11 := by
  simp [length_encodeRecord, State.statusFields, flagBytes]

theorem length_filterCfg (c : FilterCfg) : c.bytes.length = 10 := by
  simp [FilterCfg.bytes, length_encodeRecord, Field.size, Field.bits, Field.body, flagBytes]

theorem length_stepRec (x : StepRec) : x.bytes.length = 10 := rfl

/-! ### Answers that fit -/

/-- An answer takes no more frames than its kind may need, and each payload fits (R152, R154). -/
def Reply.Fits (places : Nat) (r : Reply) : Prop :=
  r.payloads.length ≤ places ∧ ∀ pl ∈ r.payloads, pl.length ≤ 60

theorem okPayloads_length (i : Nat) (fs : List (List Byte)) : (okPayloads i fs).length = fs.length := by
  induction fs generalizing i with
  | nil => rfl
  | cons x rest ih =>
    cases rest with
    | nil => rfl
    | cons y rest => simpa [okPayloads] using ih (i + 1)

/-- Every payload of an OK answer is a status byte and one frame's fields (R160). -/
theorem okPayloads_mem {i : Nat} {fs : List (List Byte)} {pl : List Byte} (h : pl ∈ okPayloads i fs) :
    ∃ x ∈ fs, pl.length = x.length + 1 := by
  induction fs generalizing i with
  | nil => cases h
  | cons x rest ih =>
    cases rest with
    | nil =>
      rw [List.mem_singleton.1 h]
      exact ⟨x, List.mem_singleton_self x, rfl⟩
    | cons y rest =>
      obtain rfl | h := List.mem_cons.1 h
      · exact ⟨x, List.mem_cons_self, rfl⟩
      · obtain ⟨z, hz, e⟩ := ih h
        exact ⟨z, List.mem_cons_of_mem _ hz, e⟩

theorem Reply.fits_frames {places : Nat} {fs : List (List Byte)} (count : fs.length ≤ places)
    (sizes : ∀ x ∈ fs, x.length ≤ 59) : (Reply.frames fs).Fits places := by
  refine ⟨(okPayloads_length 0 fs).trans_le count, fun pl hpl => ?_⟩
  obtain ⟨x, hx, e⟩ := okPayloads_mem hpl
  rw [e]
  exact Nat.succ_le_succ (sizes x hx)

theorem ReqKind.one_le_places (k : ReqKind) : 1 ≤ k.places := by cases k <;> decide

theorem Reply.fits_refuse (k : ReqKind) (c : Code) : (Reply.refuse c).Fits k.places := by
  rw [Reply.Fits, Reply.refuse_payloads]
  exact ⟨k.one_le_places, fun pl hpl => by rw [List.mem_singleton.1 hpl]; simp⟩

theorem Reply.fits_one (k : ReqKind) {x : List Byte} (h : x.length ≤ 59) :
    (Reply.frames [x]).Fits k.places :=
  Reply.fits_frames k.one_le_places fun y hy => by rw [List.mem_singleton.1 hy]; exact h

theorem length_entryBytes (s : State) (es : List (Nat × Entry)) :
    (s.entryBytes es).length = 17 * es.length := by
  induction es with
  | nil => rfl
  | cons x es ih =>
    rw [State.entryBytes, List.flatMap_cons, List.length_append, length_entryRecord]
    rw [State.entryBytes] at ih
    rw [ih, List.length_cons]
    omega

theorem State.queueFrames_fits (s : State) (start count : Nat) (h : count ≤ 4) :
    (Reply.frames (s.queueFrames start count)).Fits ReqKind.readQueue.places := by
  have most : (s.entriesFrom start count).length ≤ 4 := (List.length_take_le _ _).trans h
  unfold State.queueFrames
  extract_lets es first
  have head : first.length ≤ 59 := by
    simp only [first, List.length_append, length_queueTotals, length_entryBytes, List.length_take]
    omega
  split
  · exact Reply.fits_one .readQueue head
  · refine Reply.fits_frames (Nat.le_refl 2) fun x hx => ?_
    obtain rfl | hx := List.mem_cons.1 hx
    · exact head
    · rw [List.mem_singleton.1 hx, length_entryBytes, List.length_drop]
      have : es.length ≤ 4 := most
      omega

theorem State.slotsFrames_fits (s : State) :
    (Reply.frames s.slotsFrames).Fits ReqKind.readSlots.places := by
  refine Reply.fits_frames (Nat.le_refl 3) ?_
  simp [State.slotsFrames, length_admissionRecord, length_arbiterRecord, length_slotRecord]

theorem State.monitorFrames_fits (s : State) :
    (Reply.frames s.monitorFrames).Fits ReqKind.readMonitor.places := by
  refine Reply.fits_frames (Nat.le_refl 2) ?_
  simp [State.monitorFrames, length_channelRecord, length_monitorRecord]

theorem length_journalBytes (rs : List JournalRec) : (journalBytes rs).length = 27 * rs.length := by
  induction rs with
  | nil => rfl
  | cons r rs ih =>
    rw [journalBytes, List.flatMap_cons, List.length_append, length_journalRecord]
    rw [journalBytes] at ih
    rw [ih, List.length_cons]
    omega

/-- Records two to a frame take half as many frames, rounded up, of at most 54 bytes (Table 10-7). -/
theorem inPairs_fits (rs : List JournalRec) :
    (inPairs rs).length = (rs.length + 1) / 2 ∧ ∀ x ∈ inPairs rs, x.length ≤ 54 := by
  induction rs using inPairs.induct with
  | case1 => exact ⟨rfl, by simp [inPairs]⟩
  | case2 r => exact ⟨by simp [inPairs], by simp [inPairs, length_journalBytes]⟩
  | case3 r q rest ih =>
    obtain ⟨count, sizes⟩ := ih
    refine ⟨?_, fun x hx => ?_⟩
    · simp only [inPairs, List.length_cons, count]
      omega
    · obtain rfl | hx := List.mem_cons.1 hx
      · simp [length_journalBytes]
      · exact sizes x hx

theorem Journal.frames_fits (j : Journal) (start : Count16) (count : Nat) (h : count ≤ 8) :
    (Reply.frames (j.frames start count)).Fits ReqKind.readJournal.places := by
  have most : (j.recordsFrom start count).length ≤ 8 := (List.length_take_le _ _).trans h
  unfold Journal.frames
  extract_lets rs
  have most : rs.length ≤ 8 := most
  obtain ⟨pairs, sizes⟩ := inPairs_fits (rs.drop 1)
  refine Reply.fits_frames ?_ fun x hx => ?_
  · rw [List.length_cons, pairs, List.length_drop]
    show _ ≤ 5
    omega
  · obtain rfl | hx := List.mem_cons.1 hx
    · simp only [Journal.header, List.length_append, length_journalBytes, List.length_take, length_u8,
        length_u16]
      omega
    · exact (sizes x hx).trans (by omega)

/-! ### Parts of pages -/

theorem length_flatMap_of_const {α : Type} (n : Nat) (g : α → List Byte) (l : List α)
    (h : ∀ x, (g x).length = n) : (l.flatMap g).length = n * l.length := by
  rw [List.length_flatMap]
  simp [h, Nat.mul_comm]

theorem length_programmePart (count : Nat) (steps : List StepRec) (part : Nat) :
    (programmePart count steps part).length ≤ 41 := by
  rw [programmePart, List.length_append, length_flatMap_of_const 10 _ _ length_stepRec, List.length_take,
    length_u8]
  omega

theorem length_append_u8 (l : List Byte) (n : Nat) : (l ++ u8 n).length = l.length + 1 := by
  rw [List.length_append, length_u8]

theorem length_append_u16 (l : List Byte) (n : Nat) : (l ++ u16 n).length = l.length + 2 := by
  rw [List.length_append, length_u16]

theorem PlantPage.length_part4 (q : PlantPage) : q.part4.length = 30 := by
  delta PlantPage.part4
  simp only [length_append_u8, length_append_u16, length_u8]

theorem PlantPage.length_part5 (q : PlantPage) : q.part5.length = 28 := by
  delta PlantPage.part5
  simp only [length_append_u8, length_append_u16, length_u8]

theorem PlantPage.length_part (q : PlantPage) (part : Nat) : (q.part part).length ≤ 41 := by
  unfold PlantPage.part
  by_cases low : part < 4
  · rw [if_pos low, length_flatMap_of_const 10 _ _ length_filterCfg, List.length_take]
    omega
  · rw [if_neg low]
    by_cases fourth : part = 4
    · rw [if_pos fourth, PlantPage.length_part4]
      omega
    · rw [if_neg fourth, PlantPage.length_part5]
      omega

theorem PageStore.length_storedPart (t : PageStore) (g : PageId) (part : Nat) :
    (t.storedPart g part).length ≤ 41 := by
  unfold PageStore.storedPart
  split
  · cases g with
    | programme n => exact length_programmePart _ _ _
    | plant => exact PlantPage.length_part _ _
  · exact Nat.zero_le _

theorem Staged.length_part (x : Staged) (part : Nat) : (x.part part).length ≤ 41 := by
  cases x with
  | programme g count steps => exact length_programmePart _ _ _
  | plant q => exact PlantPage.length_part _ _

theorem PageStore.length_pageHeader (t : PageStore) (g : PageId) (source part : Nat) :
    (t.pageHeader g source part).length = 6 := rfl

end Sys2Proof.Machine

/-! PROOFS. Moves of the part: what each request does, and the taking of a request. -/

namespace Sys2Proof.Machine

/-! ### Requests -/

/-- What a request may do to the part: a move of the whole that leaves the port's outbound queue as it was, and
an answer that fits (R154). -/
structure Served (k : ReqKind) (p : Port) (s : State) (x : State × Reply) : Prop where
  outer : OuterMove s x.1
  outbound : (x.1.port p).outbound = (s.port p).outbound
  fits : x.2.Fits k.places

/-- A block serves a kind, for requests that pass the Station Link's checks. -/
def ReqKind.ServedBy (k : ReqKind) (body : Body) : Prop :=
  ∀ p pl s, s.linkCheck p k pl = none → Served k p s (body p pl s)

theorem Served.read {k : ReqKind} (p : Port) (s : State) {r : Reply} (fits : r.Fits k.places) :
    Served k p s (s, r) := ⟨.refl s, rfl, fits⟩

theorem Served.refused (k : ReqKind) (p : Port) (s : State) (c : Code) : Served k p s (s, .refuse c) :=
  .read p s (Reply.fits_refuse k c)

theorem Served.done {k : ReqKind} {p : Port} {s t : State}
    (h : OuterMove s t ∧ (t.port p).outbound = (s.port p).outbound) : Served k p s (t, .done) :=
  ⟨h.1, h.2, Reply.fits_one k (Nat.zero_le _)⟩

theorem State.outbound_of_ports {s t : State} (h : t.ports = s.ports) (p : Port) :
    (t.port p).outbound = (s.port p).outbound := by rw [State.port_congr h p]

theorem Served.inner {k : ReqKind} {s t : State} (p : Port) (h : InnerMove s t) : Served k p s (t, .done) :=
  .done ⟨h.outer, State.outbound_of_ports h.ports p⟩

/-- A request that passes the checks comes from an attached port whose role may send it, unless it is an
ATTACH (Table 10-3). -/
theorem State.role_of_linkCheck {s : State} {p : Port} {k : ReqKind} {pl : List Byte}
    (h : s.linkCheck p k pl = none) (attach : k ≠ .attach) :
    ∃ r, (s.port p).role = some r ∧ k.allows r = true := by
  unfold State.linkCheck at h
  extract_lets rec at h
  split_ifs at h with _ attached role
  cases e : rec.role with
  | none => exact absurd ⟨e, attach⟩ attached
  | some r => exact ⟨r, rfl, by simpa [e] using role⟩

/-- Table 10-5's supervisor kinds come from supervisors. -/
theorem State.supervisor_of_linkCheck {s : State} {p : Port} {k : ReqKind} {pl : List Byte}
    (h : s.linkCheck p k pl = none) (attach : k ≠ .attach) (supervisors : k.allows .gallery = false) :
    (s.port p).role = some .supervisor := by
  obtain ⟨r, e, allows⟩ := State.role_of_linkCheck h attach
  cases r with
  | supervisor => exact e
  | gallery => rw [supervisors] at allows; cases allows

/-! ### The Station Link's own requests -/

theorem State.overlaps_false {s : State} {p : Port} {b : Bounds} (h : s.overlaps p b = false)
    (apart : s.PortsApart) {q : Port} (hq : q ≠ p) {c : Bounds} (hc : (s.port q).bounds = some c) :
    b.shares c = false := by
  have role : ((s.port q).role == some .gallery) = true := by rw [← (apart.1 q).1, hc]; rfl
  have all : q ∈ allPorts := by cases q <;> decide
  have k := List.any_eq_false.1 h q all
  simpa [hq, role, hc] using k

theorem attach_served : ReqKind.ServedBy .attach attachBody := by
  intro p pl s _
  unfold attachBody
  extract_lets limit
  split_ifs
  · exact .refused _ p s _
  · exact .refused _ p s _
  · exact .done (State.acceptAttach_outer p .supervisor none limit s rfl fun _ _ _ _ _ k => by cases k)
  · split
    · exact .refused _ p s _
    · next b _ =>
      split_ifs with overlap
      · exact .refused _ p s _
      · refine .done (State.acceptAttach_outer p .gallery (some b) limit s rfl ?_)
        intro apart q hq b' c hb hc
        cases hb
        exact State.overlaps_false (Bool.eq_false_iff.2 overlap) apart hq hc

theorem detach_served : ReqKind.ServedBy .detach detachBody :=
  fun p _ s _ => .done (State.unattach_outer p s)

theorem ping_served : ReqKind.ServedBy .ping pingBody := fun p _ s _ =>
  .read p s (Reply.fits_one .ping (by rw [length_pingRecord]; omega))

/-! ### The Filter Table's requests -/

theorem report_served : ReqKind.ServedBy .report reportBody := by
  intro p pl s _
  unfold reportBody
  split
  · exact .refused _ p s _
  · next f _ =>
    split_ifs
    · exact .refused _ p s _
    · split
      · exact .refused _ p s _
      · exact .inner p ((State.reportStanding_inner f _ _ s).trans (State.rotateFrom_inner _ _))
      · exact .inner p ((State.reportStanding_inner f _ _ s).trans (State.rotateFrom_inner _ _))
      · exact .inner p (State.reportWash_inner f _ s)

theorem filterMode_served : ReqKind.ServedBy .filterMode filterModeBody := by
  intro p pl s _
  unfold filterModeBody
  split
  · exact .refused _ p s _
  · exact .refused _ p s _
  · next f mode _ _ =>
    have changed := (State.modeChange_inner f mode (modeMinutes pl) s).trans (State.rotateFrom_inner s.queue _)
    split_ifs
    · exact .refused _ p s _
    · split
      · exact .refused _ p s _
      · exact .refused _ p s _
      · exact .inner p changed
      · exact .inner p changed

/-! ### The Wash Queue's requests -/

theorem State.takeWashRequest_inner (force : Bool) (f : FilterNo) (p : Port) (s : State) :
    InnerMove s (s.takeWashRequest force f p) := by
  unfold State.takeWashRequest
  extract_lets q
  have taken : s.queue.SamePages q := by
    cases force
    · exact WashQueue.takeRequested_samePages _ _ _ _
    · exact WashQueue.takeForce_samePages _ _ _ _
  exact ((InnerMove.of_queue s taken).trans (State.clearWashFailed_inner f _)).trans
    (State.rotateFrom_inner _ _)

theorem washRequest_served : ReqKind.ServedBy .washRequest washRequestBody := by
  intro p pl s _
  unfold washRequestBody
  split
  · exact .refused _ p s _
  · split_ifs
    · exact .refused _ p s _
    · exact .refused _ p s _
    · split
      · exact .refused _ p s _
      · exact .refused _ p s _
      · exact .inner p (State.takeWashRequest_inner _ _ p s)
      · exact .inner p (State.takeWashRequest_inner _ _ p s)

theorem State.defer_inner (f : FilterNo) (s : State) : InnerMove s (s.defer f) :=
  State.fileFilter_inner f _ s

theorem State.withdrawEntry_inner (f : FilterNo) (e : Entry) (s : State) :
    InnerMove s (s.withdrawEntry f e) := by
  have back := (InnerMove.of_queue s (WashQueue.takeBack_samePages f e s.queue)).trans
    (State.rotateFrom_inner s.queue _)
  unfold State.withdrawEntry
  split
  · have dropped : s.queue.SamePages (s.queue.drop f) := ⟨rfl, rfl, rfl⟩
    exact ((InnerMove.of_queue s dropped).trans (State.defer_inner f _)).trans (State.rotateFrom_inner _ _)
  · exact back
  · exact back

theorem washWithdraw_served : ReqKind.ServedBy .washWithdraw washWithdrawBody := by
  intro p pl s _
  unfold washWithdrawBody
  split
  · exact .refused _ p s _
  · split_ifs
    · exact .refused _ p s _
    · split
      · exact .refused _ p s _
      · split_ifs
        · exact .refused _ p s _
        · exact .inner p (State.withdrawEntry_inner _ _ s)

/-! ### The slots' requests -/

theorem atSlot_served {k : ReqKind} {act : SlotId → List Byte → State → State × Reply}
    (h : ∀ p i pl s, Served k p s (act i pl s)) : k.ServedBy (atSlot act) := by
  intro p pl s _
  unfold atSlot
  split
  · exact .refused _ p s _
  · split_ifs
    · exact .refused _ p s _
    · exact .refused _ p s _
    · split
      · exact .refused _ p s _
      · exact h p _ pl s

theorem washAbort_served : ReqKind.ServedBy .washAbort washAbortBody :=
  atSlot_served fun p i _ s => .inner p (State.abort_inner i .requested s)

theorem stepFault_served : ReqKind.ServedBy .stepFault stepFaultBody :=
  atSlot_served fun p i _ s => .inner p (State.abort_inner i .valveFault s)

theorem stepReady_served : ReqKind.ServedBy .stepReady stepReadyBody := by
  refine atSlot_served fun p i pl s => ?_
  split_ifs with _ setup
  · exact .refused _ p s _
  · exact .refused _ p s _
  · exact .refused _ p s _
  · exact .inner p (State.stepReady_inner i s (not_not.1 setup))

theorem stepDone_served : ReqKind.ServedBy .stepDone stepDoneBody := by
  refine atSlot_served fun p i pl s => ?_
  split_ifs with _ run
  · exact .refused _ p s _
  · exact .refused _ p s _
  · exact .inner p (State.endRepeat_inner i s (not_not.1 fun h => run (.inl h)))

/-! ### The reading requests -/

theorem readFilter_served : ReqKind.ServedBy .readFilter readFilterBody := by
  intro p pl s _
  unfold readFilterBody
  split
  · exact .refused _ p s _
  · exact .read p s (Reply.fits_one .readFilter (by rw [length_filterRecord]; omega))

theorem readQueue_served : ReqKind.ServedBy .readQueue readQueueBody := by
  intro p pl s _
  unfold readQueueBody
  split_ifs with range
  · exact .refused _ p s _
  · exact .read p s (s.queueFrames_fits _ _ (by omega))

theorem readSlots_served : ReqKind.ServedBy .readSlots readSlotsBody :=
  fun p _ s _ => .read p s s.slotsFrames_fits

theorem readMonitor_served : ReqKind.ServedBy .readMonitor readMonitorBody :=
  fun p _ s _ => .read p s s.monitorFrames_fits

theorem readJournal_served : ReqKind.ServedBy .readJournal readJournalBody := by
  intro p pl s _
  unfold readJournalBody
  split_ifs with range
  · exact .refused _ p s _
  · exact .read p s (s.journal.frames_fits _ _ (by omega))

theorem readPage_served : ReqKind.ServedBy .readPage readPageBody := by
  intro p pl s _
  have page : ∀ (g : PageId) (source part : Nat) (fields : List Byte), fields.length ≤ 41 →
      Served .readPage p s (s, .frames [s.store.pageHeader g source part ++ fields]) := by
    intro g source part fields h
    refine .read p s (Reply.fits_one .readPage ?_)
    rw [List.length_append, PageStore.length_pageHeader]
    omega
  unfold readPageBody
  extract_lets source part
  split
  · exact .refused _ p s _
  · split_ifs
    · exact .refused _ p s _
    · exact .refused _ p s _
    · exact page _ _ _ _ (s.store.length_storedPart _ _)
    · exact .refused _ p s _
    · split
      · exact .refused _ p s _
      · next x _ =>
        split_ifs
        · exact .refused _ p s _
        · exact page _ _ _ _ (x.length_part part)

theorem readStatus_served : ReqKind.ServedBy .readStatus readStatusBody := fun p _ s _ =>
  .read p s (Reply.fits_one .readStatus (by rw [length_statusRecord]; omega))

/-! ### The supervisor's requests -/

theorem State.setClass_inner (c : RawClass) (s : State) : InnerMove s (s.setClass c) := by
  unfold State.setClass
  split
  · exact .refl s
  · exact (State.takeClass_inner c s).trans (State.rotateFrom_inner _ _)

theorem setClass_served : ReqKind.ServedBy .setClass setClassBody := by
  intro p pl s _
  unfold setClassBody
  split
  · exact .refused _ p s _
  · exact .inner p (State.setClass_inner _ s)

theorem State.setPause_inner (paused : Bool) (s : State) : InnerMove s (s.setPause paused) := by
  unfold State.setPause
  split
  · exact .refl s
  · have paused : InnerMove s { s with admission := { s.admission with paused := paused } } :=
      InnerMove.of_admission s _ rfl
    exact paused.trans (State.reconsider_inner _)

theorem setPause_served : ReqKind.ServedBy .setPause setPauseBody := by
  intro p pl s _
  unfold setPauseBody
  split_ifs
  · exact .refused _ p s _
  · exact .inner p (State.setPause_inner _ s)

theorem clockSet_served : ReqKind.ServedBy .clockSet clockSetBody := by
  intro p pl s _
  have set : InnerMove s { s with clock := BitVec.ofNat 32 (word32At pl 0) } := .of_parts rfl
  exact .inner p (set.trans (State.evalForced_inner _))

theorem clearStatus_served : ReqKind.ServedBy .clearStatus clearStatusBody :=
  fun p _ _ _ => .inner p (.of_parts rfl)

theorem peakReset_served : ReqKind.ServedBy .peakReset peakResetBody :=
  fun p _ s _ => .inner p (s.monitor_inner _)

/-! ### The Page Store's requests -/

theorem editOpen_served : ReqKind.ServedBy .editOpen editOpenBody := by
  intro p pl s check
  have role := State.supervisor_of_linkCheck check (by decide) rfl
  unfold editOpenBody
  split
  · exact .refused _ p s _
  · next g _ =>
    split_ifs with busy
    · exact .refused _ p s _
    · exact .refused _ p s _
    · refine .done ⟨.of_store _ rfl rfl rfl (fun _ => ⟨fun q hq => ?_, rfl, fun commit => absurd commit busy⟩)
        (fun sound x hx => ?_), State.outbound_of_ports rfl p⟩
      · cases hq
        exact role
      · cases hx
        exact PageStore.load_inRange sound g

theorem editWrite_served : ReqKind.ServedBy .editWrite editWriteBody := by
  intro p pl s _
  unfold editWriteBody
  split_ifs
  · exact .refused _ p s _
  · split
    · exact .refused _ p s _
    · next x staged =>
      split
      · exact .refused _ p s _
      · next y written =>
        refine .done ⟨.of_store _ rfl rfl rfl (fun ⟨role, staging, free⟩ => ⟨role, ?_, free⟩)
          (fun sound z hz => ?_), State.outbound_of_ports rfl p⟩
        · rw [staged] at staging
          exact staging
        · cases hz
          exact Staged.writeAll_inRange (sound.2.2.1 x staged) written

theorem editClose_served : ReqKind.ServedBy .editClose editCloseBody := by
  intro p _ s _
  unfold editCloseBody
  split_ifs
  · exact .refused _ p s _
  · exact .done ⟨.of_released s.store.releaseLatch rfl rfl rfl (.inr ⟨rfl, rfl⟩),
      State.outbound_of_ports rfl p⟩

theorem commit_served : ReqKind.ServedBy .commit commitBody := by
  intro p _ s _
  unfold commitBody
  split_ifs with busy
  · exact .refused _ p s _
  · exact .refused _ p s _
  · split
    · exact .refused _ p s _
    · next x staged =>
      split_ifs with _ consistent
      · exact .refused _ p s _
      · obtain ⟨outer, ports⟩ :=
          State.startCommit_outer p x s (Option.not_isSome_iff_eq_none.1 busy) staged consistent
        exact .done ⟨outer, State.outbound_of_ports ports p⟩
      · exact .refused _ p s _

/-! ### Taking a request -/

/-- The frames of an answer that fits join an outbound queue with places for them (R154, R160). -/
theorem State.answer_outer (p : Port) (kind tag : Byte) (r : Reply) (s : State) {places : Nat}
    (fits : r.Fits places) (free : (s.port p).outbound.length + places ≤ 8) :
    OuterMove s (s.answer p kind tag r) := by
  obtain ⟨count, sizes⟩ := fits
  rw [State.answer_eq]
  refine .setPort s p _ ⟨rfl, rfl, id, fun ⟨inbound, _, payloads⟩ => ⟨inbound, ?_, fun fr hfr => ?_⟩⟩
  · rw [List.length_append, List.length_map]
    omega
  · obtain hfr | hfr := List.mem_append.1 hfr
    · exact payloads fr hfr
    · obtain ⟨pl, hpl, rfl⟩ := List.mem_map.1 hfr
      exact sizes pl hpl

theorem State.popInbound_outbound (p : Port) (s : State) :
    ((s.popInbound p).port p).outbound = (s.port p).outbound := by
  rw [State.popInbound, State.port_setPort_self]

/-- A frame is taken only with the places that its answer can need (R154). -/
theorem State.places_of_takes {s : State} {p : Port} {k : ReqKind} {fr : Frame} (h : s.takes p k = some fr) :
    (s.port p).outbound.length + k.places ≤ 8 := by
  unfold State.takes at h
  split at h
  · cases h
  · split_ifs at h with taken
    have free : k.places ≤ 8 - (s.port p).outbound.length := taken.2
    have := k.one_le_places
    omega

/-- A request is taken (R154). -/
theorem State.serve_outer {k : ReqKind} {body : Body} (served : k.ServedBy body) (p : Port) (s : State) :
    OuterMove s (s.serve p k body) := by
  unfold State.serve
  split
  · exact .refl s
  · next fr takes =>
    extract_lets t
    have handled : Served k p (s.popInbound p) t := by
      show Served k p _ (State.handle _ _ _ _ _)
      unfold State.handle
      split
      · exact .refused k p _ _
      · next check => exact served p fr.payload _ check
    have places := State.places_of_takes takes
    rw [← State.popInbound_outbound p s, ← handled.outbound] at places
    exact ((s.popInbound_outer p).trans handled.outer).trans
      ((State.answer_outer p _ _ _ _ handled.fits places).trans (State.offerAll_outer _))

/-- A frame of no kind is taken (R154). -/
theorem State.serveUnknown_outer (p : Port) (s : State) : OuterMove s (s.serveUnknown p) := by
  unfold State.serveUnknown
  split
  · exact .refl s
  · split_ifs with taken
    · have free : 1 ≤ 8 - (s.port p).outbound.length := taken.2
      have places : ((s.popInbound p).port p).outbound.length + ReqKind.ping.places ≤ 8 := by
        rw [State.popInbound_outbound, show ReqKind.ping.places = 1 from rfl]
        omega
      exact (s.popInbound_outer p).trans
        ((State.answer_outer p _ _ _ _ (Reply.fits_refuse .ping _) places).trans (State.offerAll_outer _))
    · exact .refl s

end Sys2Proof.Machine

/-! PROOFS. Moves of the part: the resets, a second of plant time, the commands and the step; O56 and O57. -/

namespace Sys2Proof.Machine

/-! ### Resets -/

theorem PortRec.atReset_fits : PortRec.atReset.Fits := ⟨by decide, by decide, by decide⟩

/-- A part just booted meets every agreement on the pages of the store it is booted with (R2, R163). -/
theorem State.booted_outer (s : State) (t : PageStore) (rate : LineRate) (free : Nat) (pending : List Instr)
    (sound : s.store.Sound → t.Sound) (latch : t.latch = none) (staging : t.staging = none)
    (commit : t.commit = none) : OuterMove s (State.booted t rate free pending) := by
  have port : ∀ p, (State.booted t rate free pending).port p = PortRec.atReset := fun p => by cases p <;> rfl
  have slot : ∀ i, (State.booted t rate free pending).slot i = Slot.atReset := fun i => by cases i <;> rfl
  have status : ∀ g : Fin 8, (State.booted t rate free pending).queue.pageStatus[g] = (t.programmes[g]).status :=
    fun g => by simp [State.booted, WashQueue.atReset]
  have committing : t.committing = none := by rw [PageStore.committing, commit, Option.map_none]
  constructor
  case journal => exact fun _ => ⟨Nat.zero_le _, fun k hk => absurd hk (Nat.not_lt_zero k)⟩
  case fit =>
    intro _ p
    rw [port p]
    exact PortRec.atReset_fits
  case apart =>
    refine fun _ => ⟨fun p => ?_, fun p q b c _ hb => ?_, Vector.ext fun f hf => ?_⟩
    · rw [port p]
      exact ⟨rfl, rfl⟩
    · rw [port p] at hb
      cases hb
    · have uncovered : (State.booted t rate free pending).linkCovers ⟨f, hf⟩ = false := rfl
      refine Eq.trans (b := false) (by simp [State.booted, WashQueue.atReset]) ?_
      exact uncovered.symm.trans (State.coverage_get _ ⟨f, hf⟩).symm
  case supervised =>
    refine fun _ => ⟨fun p hp => ?_, ?_, fun _ => latch⟩
    · rw [show t.latch = some p from hp] at latch
      cases latch
    · show t.staging.isSome = t.latch.isSome
      rw [staging, latch]
      rfl
  case status =>
    refine fun _ => ⟨fun g => ?_, ?_⟩
    · rw [status g, show (State.booted t rate free pending).store.committing = _ from committing,
        if_neg nofun]
      rfl
    · show false = (t.committing == _)
      rw [committing]
      rfl
  case store => exact sound
  case washes =>
    refine fun _ _ => ⟨fun i => ?_, fun r hr => ?_, rfl, fun g usable => ?_⟩
    · rw [slot i]
      exact Slot.atReset_placed _
    · cases hr
    · rw [status g, ProgrammePage.status] at usable
      split at usable
      · next valid => exact valid
      · cases usable

/-- The page that an interrupted commit leaves is marked and not VALID (R143). -/
theorem PageStore.tear_sound {t : PageStore} (n : Nat) (h : t.Sound) : (t.tear n).Sound := by
  obtain ⟨pages, plant, rest⟩ := h
  unfold PageStore.tear
  split
  · exact ⟨pages, plant, rest⟩
  · next g _ _ _ =>
    refine ⟨fun f k => ?_, plant, rest⟩
    by_cases e : g = f
    · subst e
      simp at k
    · have e' : g.val ≠ f.val := fun h => e (Fin.ext h)
      simp only [Fin.getElem_fin, Vector.getElem_set_ne _ _ e'] at k ⊢
      exact pages f k
  · exact ⟨pages, fun k => by simp at k, rest⟩

theorem PageStore.held_sound {t : PageStore} (n : Nat) (h : t.Sound) : (t.held n).Sound := by
  obtain ⟨pages, plant, -⟩ := PageStore.tear_sound n h
  exact ⟨pages, plant, fun x hx => (by cases hx), fun x hx => (by cases hx)⟩

/-- A page found VALID carries no marker (R133). -/
theorem PageStore.revalidate_sound {t : PageStore} (h : t.Sound) : t.revalidate.Sound := by
  obtain ⟨pages, plant, -⟩ := h
  refine ⟨fun g k => ?_, fun k => plant (.inl ?_), fun x hx => (by cases hx), fun x hx => (by cases hx)⟩
  · simp only [PageStore.revalidate, Fin.getElem_fin, Vector.getElem_map, ProgrammePage.revalidate] at k ⊢
    refine pages g (.inl ?_)
    rw [Fin.getElem_fin]
    simp at k
    tauto
  · simp [PageStore.revalidate, StoredPlant.revalidate] at k
    tauto

theorem State.assertReset_outer (s : State) : OuterMove s s.assertReset := by
  let free := if s.store.commit.isSome then s.free + 1 else s.free
  have booted : OuterMove s (State.booted (s.store.held s.free) s.lineRate free s.pending) :=
    State.booted_outer s _ _ _ _ (PageStore.held_sound s.free) rfl rfl rfl
  refine booted.trans (InnerMove.outer ?_)
  exact .of_parts rfl

theorem State.startUp_outer (baud1 baud0 : Bool) (s : State) : OuterMove s (s.startUp baud1 baud0) :=
  State.booted_outer s _ _ _ _ PageStore.revalidate_sound rfl rfl rfl

/-! ### A second of plant time -/

theorem Timer.tick_isSome (t : Timer) : t.tick.isSome = t.isSome := by cases t <;> rfl

theorem ClearHold.tick_stopped (h : ClearHold) : h.tick = .stopped ↔ h = .stopped := by
  cases h <;> simp [ClearHold.tick]

theorem Slot.tick_placed (n : Nat) (x : Slot) (h : x.Placed n) : x.tick.Placed n := by
  refine h.congr rfl rfl rfl rfl rfl (fun k => h.running ?_) fun k => ?_
  · simpa [Slot.tick, Timer.tick_isSome, ClearHold.tick_stopped] using k
  · simpa [Slot.tick, Timer.tick_isSome] using k

theorem PortRec.tick_goesTo (r : PortRec) : r.GoesTo r.tick :=
  ⟨rfl, rfl, fun k => (Timer.tick_isSome _).trans k, id⟩

theorem State.countDown_outer (s : State) : OuterMove s s.countDown := by
  let ps : Ports := ⟨s.ports.p0.tick, s.ports.p1.tick, s.ports.p2.tick, s.ports.p3.tick⟩
  let t : State := { s with ports := ps }
  have ports : OuterMove s t := .of_ports ps fun p => by cases p <;> exact PortRec.tick_goesTo _
  have slotA : InnerMove t (t.setSlot .a (t.slot .a).tick) := .setSlot _ _ _ rfl fun n => Slot.tick_placed n _
  have slotB : InnerMove (t.setSlot .a (t.slot .a).tick)
      ((t.setSlot .a (t.slot .a).tick).setSlot .b (t.slot .b).tick) :=
    .setSlot _ _ _ rfl fun n => Slot.tick_placed n _
  refine (ports.trans (slotA.trans slotB).outer).trans (InnerMove.outer ?_)
  exact .of_parts rfl

theorem State.slotTimerExpiry_inner (k : SlotTimer) (i : SlotId) (s : State) :
    InnerMove s (s.slotTimerExpiry k i) := by
  cases k with
  | valve => exact State.valveExpiry_inner i s
  | supplyWait => exact State.supplyWaitExpiry_inner i s
  | step => exact State.stepExpiry_inner i s
  | clearHold => exact State.clearHoldExpiry_inner i s
  | ramp => exact State.rampExpiry_inner i s
  | shortfall => exact State.shortfallExpiry_inner i s
  | resettle => exact State.resettleExpiry_inner i s
  | halt => exact State.haltExpiry_inner i s

theorem State.takeDue_outer (d : Due) (s : State) : OuterMove s (s.takeDue d) := by
  cases d with
  | minute => exact s.minute_inner.outer
  | silence p => exact State.silenceExpiry_outer p s
  | spacing => exact s.spacingExpiry_inner.outer
  | slot k i => exact (State.slotTimerExpiry_inner k i s).outer
  | commit => exact s.completeCommit_outer

theorem State.runDue_outer (n : Nat) (s : State) : OuterMove s (s.runDue n) := by
  induction n generalizing s with
  | zero => exact .refl s
  | succ n ih =>
    unfold State.runDue
    split
    · exact .refl s
    · exact ((State.takeDue_outer _ s).trans (State.offerAll_outer _)).trans (ih _)
    · exact ((s.chosen_outer.trans (State.takeDue_outer _ _)).trans (State.offerAll_outer _)).trans (ih _)

theorem State.tick_outer (s : State) : OuterMove s s.tick := by
  unfold State.tick
  split
  · exact .refl s
  · exact s.countDown_outer.trans (State.runDue_outer _ _)

/-! ### Commands -/

theorem OuterMove.of_next {s t u : State} (h : (.next u : Host.Outcome State Fault Refusal) = .next t)
    (hu : OuterMove s u) : OuterMove s t := by
  rwa [← Host.Outcome.next.inj h]

/-- Outside a reset a command is a move of the part; during one it changes nothing (log 1). -/
theorem OuterMove.of_running {s t : State} {f : State → State} (h : s.whenRunning f = .next t)
    (hf : OuterMove s (f s)) : OuterMove s t := by
  unfold State.whenRunning at h
  refine .of_next h ?_
  split
  · exact .refl s
  · exact hf

/-- A command that offers owed notices after its event (R158). -/
theorem OuterMove.of_offering {s t : State} (f : State → State)
    (h : s.whenRunning (fun u => (f u).offerAll) = .next t) (hf : OuterMove s (f s)) : OuterMove s t :=
  .of_running h (hf.trans (State.offerAll_outer _))

theorem OuterMove.offering {s t : State} (h : InnerMove s t) : OuterMove s t.offerAll :=
  h.outer.trans (State.offerAll_outer t)

theorem State.enterSlotNotice_outer (kind : SlotNotice) (i : SlotId) (s : State) :
    OuterMove s (s.enterSlotNotice kind i) := by
  unfold State.enterSlotNotice
  split
  · exact State.enterNotice_outer _ s
  · exact .refl s

/-- A request that waits is granted (R95). -/
theorem State.grantRequest_inner (r : Request) (s : State) (waits : r ∈ s.arbiter.requests) :
    InnerMove s (s.grantRequest r) :=
  ⟨.of_shape (State.grantRequest_shape r s),
    fun _ w => State.grantRequest_placed r w (.inl (w.requests r waits))⟩

theorem exec_outer {c : Instr} {s t : State} (h : exec c s = .next t) : OuterMove s t := by
  cases c with
  | powerOnReset => exact .of_next h s.assertReset_outer
  | resetLine => exact .of_next h s.assertReset_outer
  | startUp baud1 baud0 =>
    refine .of_next h ?_
    split
    · exact State.startUp_outer baud1 baud0 s
    · exact .refl s
  | frameArrival p bytes => exact .of_running h (.setPort s p _ (PortRec.receiveAll_goesTo _ _))
  | discardedFrame p bytes gap => exact .of_running h (.setPort s p _ (PortRec.receiveWithGap_goesTo _ _ _))
  | frameDeparture p => exact .of_running h (State.depart_outer p s)
  | silenceTimerExpiry p => exact .of_offering (State.silenceExpiry p) h (State.silenceExpiry_outer p s)
  | unknownRequest p => exact .of_running h (State.serveUnknown_outer p s)
  | attach p => exact .of_running h (State.serve_outer attach_served p s)
  | detach p => exact .of_running h (State.serve_outer detach_served p s)
  | ping p => exact .of_running h (State.serve_outer ping_served p s)
  | report p => exact .of_running h (State.serve_outer report_served p s)
  | filterMode p => exact .of_running h (State.serve_outer filterMode_served p s)
  | washRequest p => exact .of_running h (State.serve_outer washRequest_served p s)
  | washWithdraw p => exact .of_running h (State.serve_outer washWithdraw_served p s)
  | washAbort p => exact .of_running h (State.serve_outer washAbort_served p s)
  | stepReady p => exact .of_running h (State.serve_outer stepReady_served p s)
  | stepDone p => exact .of_running h (State.serve_outer stepDone_served p s)
  | stepFault p => exact .of_running h (State.serve_outer stepFault_served p s)
  | readFilter p => exact .of_running h (State.serve_outer readFilter_served p s)
  | readQueue p => exact .of_running h (State.serve_outer readQueue_served p s)
  | readSlots p => exact .of_running h (State.serve_outer readSlots_served p s)
  | readMonitor p => exact .of_running h (State.serve_outer readMonitor_served p s)
  | readJournal p => exact .of_running h (State.serve_outer readJournal_served p s)
  | readPage p => exact .of_running h (State.serve_outer readPage_served p s)
  | readStatus p => exact .of_running h (State.serve_outer readStatus_served p s)
  | setClass p => exact .of_running h (State.serve_outer setClass_served p s)
  | setPause p => exact .of_running h (State.serve_outer setPause_served p s)
  | clockSet p => exact .of_running h (State.serve_outer clockSet_served p s)
  | clearStatus p => exact .of_running h (State.serve_outer clearStatus_served p s)
  | peakReset p => exact .of_running h (State.serve_outer peakReset_served p s)
  | editOpen p => exact .of_running h (State.serve_outer editOpen_served p s)
  | editWrite p => exact .of_running h (State.serve_outer editWrite_served p s)
  | editClose p => exact .of_running h (State.serve_outer editClose_served p s)
  | commit p => exact .of_running h (State.serve_outer commit_served p s)
  | commitCompletion => exact .of_offering State.completeCommit h s.completeCommit_outer
  | stepSet i => exact .of_running h (State.enterSlotNotice_outer _ i s)
  | stepRun i => exact .of_running h (State.enterSlotNotice_outer _ i s)
  | washEnd f => exact .of_running h (State.enterNotice_outer _ s)
  | commitDone => exact .of_running h (State.enterNotice_outer _ s)
  | minuteEvent => exact .of_offering State.minute h s.minute_inner.outer
  | channelSample ch r => exact .of_offering (State.sample ch r) h (State.sample_inner ch r s).outer
  | windowCompletion ch r =>
    refine .of_running h ?_
    split
    · exact .offering (State.sample_inner ch r s)
    · exact .refl s
  | admission =>
    refine .of_running h ?_
    split
    · exact .offering ((State.examine_inner 3 s).trans (State.evalRotation_inner _))
    · exact .refl s
  | spacingTimerExpiry => exact .of_offering State.spacingExpiry h s.spacingExpiry_inner.outer
  | valveTimerExpiry i => exact .of_offering (State.valveExpiry i) h (State.valveExpiry_inner i s).outer
  | supplyWaitExpiry i => exact .of_offering (State.supplyWaitExpiry i) h (State.supplyWaitExpiry_inner i s).outer
  | stepTimerExpiry i => exact .of_offering (State.stepExpiry i) h (State.stepExpiry_inner i s).outer
  | clearHoldExpiry i => exact .of_offering (State.clearHoldExpiry i) h (State.clearHoldExpiry_inner i s).outer
  | rampTimerExpiry i => exact .of_offering (State.rampExpiry i) h (State.rampExpiry_inner i s).outer
  | shortfallTimerExpiry i => exact .of_offering (State.shortfallExpiry i) h (State.shortfallExpiry_inner i s).outer
  | resettleTimerExpiry i => exact .of_offering (State.resettleExpiry i) h (State.resettleExpiry_inner i s).outer
  | haltTimerExpiry i => exact .of_offering (State.haltExpiry i) h (State.haltExpiry_inner i s).outer
  | grant i =>
    have h : execGrant i s = .next t := h
    refine .of_running h ?_
    split
    · next r first =>
      split
      · exact .offering (State.grantRequest_inner r s (List.mem_of_find?_eq_some first))
      · exact .refl s
    · exact .refl s

/-- Every step of the part keeps its journal, its ports, its latch, its pages and its washes in order. -/
theorem step_outer {s t : State} (h : step s = .next t) : OuterMove s t := by
  unfold step at h
  split at h
  · exact .of_next h s.tick_outer
  · next c rest _ =>
    have taken : InnerMove s { s with pending := rest } := .of_parts rfl
    exact taken.outer.trans (exec_outer h)

/-! ### The obligations -/

/-- Settles O56, from the moves that every step is made of. -/
theorem linkAndJournalStayInBounds : Obligations.LinkAndJournalStayInBounds :=
  ⟨fun _ _ h => ⟨(step_outer h).journal, (step_outer h).fit⟩,
    fun _ _ h => ⟨(step_outer h).apart, fun _ => (step_outer h).supervised⟩⟩

/-- The supply, the washes and the page status agreeing, the washes are in place (R39, R66, R91). -/
theorem State.washesPlaced {s : State} (status : s.PageStatusCurrent) (agree : s.SupplyAgrees)
    (copies : ∀ i, (s.slot i).CopySound) : s.WashesPlaced none := by
  obtain ⟨-, ⟨each, -, -, -, count⟩, -, -⟩ := agree
  refine ⟨fun i => ?_, fun r hr => ?_, count, fun g usable => ?_⟩
  · obtain ⟨idle, active, ⟨-, -, running, resettling, -⟩, -, -⟩ := each i
    refine ⟨⟨fun h => ?_, fun none_ => ?_⟩, copies i, fun k => running ?_, resettling⟩
    · rw [idle h]
      rfl
    · by_contra h
      obtain ⟨f, e, -⟩ := active h
      rw [none_] at e
      cases e
    · tauto
  · obtain ⟨-, -, -, -, waits, -⟩ := each r.slot
    have waiting : s.arbiter.requests.any (fun q => q.slot == r.slot) = true :=
      List.any_eq_true.2 ⟨r, hr, by simp⟩
    rw [waiting] at waits
    simpa using waits.symm
  · rw [status.1 g, ProgrammePage.status] at usable
    split_ifs at usable with _ valid
    exact valid

/-- Settles O57, from the moves that every step is made of. -/
theorem pagesStaySound : Obligations.PagesStaySound := by
  intro s t h
  have move := step_outer h
  refine ⟨move.status, move.store, fun status sound agree copies i => ?_⟩
  exact ((move.washes sound (State.washesPlaced status agree copies)).slots i).copy

end Sys2Proof.Machine

/-! PROOFS. A standing notice at the Wash Queue; O25. -/

namespace Sys2Proof.Machine

/-! ### Order -/

theorem insertEntry_perm (e : Entry) (l : List Entry) : (insertEntry e l).Perm (e :: l) := by
  induction l with
  | nil => exact .refl _
  | cons x xs ih =>
    unfold insertEntry
    split
    · exact .refl _
    · exact (ih.cons x).trans (.swap e x xs)

/-- Two entries are told apart by filter and by join number (R28, log 15). -/
def Entry.Apart (a b : Entry) : Prop := a.filter ≠ b.filter ∧ a.order ≠ b.order

theorem WashQueue.ordered_iff (q : WashQueue) :
    q.Ordered ↔ (q.entries.Pairwise (fun a b => a.before b = true) ∧ q.entries.Pairwise Entry.Apart) ∧
      ∀ e ∈ q.entries, e.order ≤ q.joins :=
  and_congr_left' List.pairwise_and_iff

theorem WashQueue.drop_ordered (f : FilterNo) {q : WashQueue} (h : q.Ordered) : (q.drop f).Ordered :=
  ⟨h.1.filter _, fun e he => h.2 e ((q.mem_drop f e).1 he).1⟩

/-- An entry is placed that no other filter's shares its join number with, and the order stands (R29). -/
theorem WashQueue.place_ordered {q : WashQueue} {e : Entry} (h : q.Ordered) (counted : e.order ≤ q.joins)
    (new : ∀ x ∈ q.entries, x.filter ≠ e.filter → x.order ≠ e.order) : (q.place e).Ordered := by
  obtain ⟨⟨before, apart⟩, numbers⟩ := (WashQueue.ordered_iff _).1 (WashQueue.drop_ordered e.filter h)
  have others : ∀ x ∈ (q.drop e.filter).entries, x.filter ≠ e.filter ∧ x.order ≠ e.order := fun x hx =>
    have ⟨old, other⟩ := (q.mem_drop e.filter x).1 hx
    ⟨other, new x old other⟩
  have symmetric : ∀ {a b : Entry}, a.Apart b → b.Apart a := fun k => ⟨k.1.symm, k.2.symm⟩
  refine (WashQueue.ordered_iff _).2 ⟨⟨insertEntry_ordered e _ before fun x hx => (others x hx).2, ?_⟩, ?_⟩
  · refine ((insertEntry_perm e _).pairwise_iff symmetric).2 (List.pairwise_cons.2 ⟨fun x hx => ?_, apart⟩)
    exact symmetric (others x hx)
  · intro x hx
    obtain rfl | ⟨old, -⟩ := (WashQueue.mem_place e x q).1 hx
    · exact counted
    · exact h.2 x old

/-! ### Acting on one filter's entry -/

/-- The entry of one filter is acted on: the views and the other filters' entries stay, and so does the
order (R28, R29). -/
structure WashQueue.ActsOn (f : FilterNo) (q t : WashQueue) : Prop where
  views : t.views = q.views
  others : ∀ g, g ≠ f → t.entry g = q.entry g
  ordered : q.Ordered → t.Ordered

theorem WashQueue.ActsOn.refl (f : FilterNo) (q : WashQueue) : q.ActsOn f q := ⟨rfl, fun _ _ => rfl, id⟩

theorem WashQueue.drop_actsOn (f : FilterNo) (q : WashQueue) : q.ActsOn f (q.drop f) :=
  ⟨rfl, fun g h => q.entry_drop_other f g h, WashQueue.drop_ordered f⟩

/-- A filter's entry is replaced by one with the same join number. -/
theorem WashQueue.replace_actsOn {f : FilterNo} {q : WashQueue} {e y : Entry} (h : q.entry f = some e)
    (filter : y.filter = e.filter) (order : y.order = e.order) : q.ActsOn f (q.place y) := by
  obtain ⟨held, rfl⟩ := q.entry_some f e h
  refine ⟨rfl, fun g k => q.entry_place_other y g (filter ▸ k), fun ordered => ?_⟩
  obtain ⟨⟨-, apart⟩, numbers⟩ := q.ordered_iff.1 ordered
  refine WashQueue.place_ordered ordered (order ▸ numbers e held) fun x hx other => ?_
  have symmetric : Std.Symm Entry.Apart := ⟨fun _ _ k => ⟨k.1.symm, k.2.symm⟩⟩
  have different : x ≠ e := fun k => other (k ▸ filter.symm)
  exact order ▸ (apart.forall hx held different).2

/-- A join takes the next number, which lies ahead of those of all entries (R28, log 15). -/
theorem WashQueue.join_actsOn (minute : Count32) (f : FilterNo) (cls : EntryClass)
    (reason : Option ForcedReason) (urgency : Nat) (port : Option Port) (q : WashQueue) :
    q.ActsOn f (q.join minute f cls reason urgency port) := by
  refine ⟨rfl, fun g h => WashQueue.entry_place_other _ g _ h, fun ordered => ?_⟩
  have counted : WashQueue.Ordered { q with joinCounter := q.joinCounter + 1, joins := q.joins + 1 } :=
    ⟨ordered.1, fun e he => (ordered.2 e he).trans (Nat.le_succ _)⟩
  refine WashQueue.place_ordered counted (Nat.le_refl _) fun x hx _ => ?_
  exact (Nat.lt_succ_of_le (ordered.2 x hx)).ne

theorem WashQueue.join_entry (minute : Count32) (f : FilterNo) (cls : EntryClass)
    (reason : Option ForcedReason) (urgency : Nat) (port : Option Port) (q : WashQueue) :
    (q.join minute f cls reason urgency port).entry f = some
      { filter := f, cls := cls, reason := reason, urgency := urgency, ticket := q.joinCounter + 1,
        joinMinute := minute, requestedBy := port, order := q.joins + 1 } :=
  WashQueue.entry_place_self _ _

/-- A filter's entry, after its replacement by one of the same filter. -/
theorem WashQueue.entry_replaced {f : FilterNo} {q : WashQueue} {e y : Entry} (h : q.entry f = some e)
    (filter : y.filter = e.filter) : (q.place y).entry f = some y := by
  rw [← (q.entry_some f e h).2, ← filter]
  exact WashQueue.entry_place_self y q

/-! ### The two tables -/

/-- A notice for a queued filter acts on its entry (R32). -/
theorem WashQueue.noticeEntry_actsOn {f : FilterNo} {q : WashQueue} {e : Entry} (h : q.entry f = some e)
    (standing : Standing) (urgency : Nat) : q.ActsOn f (q.noticeEntry f e standing urgency) := by
  have placed : ∀ y : Entry, y.filter = e.filter → y.order = e.order → q.ActsOn f (q.place y) :=
    fun _ => WashQueue.replace_actsOn h
  cases standing with
  | out => exact q.drop_actsOn f
  | below =>
    unfold WashQueue.noticeEntry
    split_ifs
    · exact q.drop_actsOn f
    · exact placed _ rfl rfl
  | hold => exact placed _ rfl rfl
  | due => exact placed _ rfl rfl
  | limit => exact placed _ rfl rfl

theorem WashQueue.noticeEntry_joinCounter (f : FilterNo) (e : Entry) (standing : Standing) (urgency : Nat)
    (q : WashQueue) : (q.noticeEntry f e standing urgency).joinCounter = q.joinCounter := by
  rw [WashQueue.noticeEntry_list]

/-- A filter without an entry joins at LIMIT and at DUE (R31). -/
theorem WashQueue.takeNotice_limit {f : FilterNo} {q : WashQueue} (h : q.entry f = none) (minute : Count32)
    (urgency : Nat) : q.takeNotice minute f .limit urgency =
      (q.setView f ⟨.limit, urgency⟩).join minute f .forced (some .limit) urgency none := by
  simp only [WashQueue.takeNotice, WashQueue.entry_setView, h]

theorem WashQueue.takeNotice_due {f : FilterNo} {q : WashQueue} (h : q.entry f = none) (minute : Count32)
    (urgency : Nat) : q.takeNotice minute f .due urgency =
      (q.setView f ⟨.due, urgency⟩).join minute f .due none urgency none := by
  simp only [WashQueue.takeNotice, WashQueue.entry_setView, h]

/-- At any other standing it is given no entry (R31). -/
theorem WashQueue.takeNotice_unjoined {f : FilterNo} {q : WashQueue} (h : q.entry f = none)
    (minute : Count32) {standing : Standing} (other : standing = .hold ∨ standing = .below ∨ standing = .out)
    (urgency : Nat) : q.takeNotice minute f standing urgency = q.setView f ⟨standing, urgency⟩ := by
  obtain rfl | rfl | rfl := other <;> simp only [WashQueue.takeNotice, WashQueue.entry_setView, h]

/-- A queued filter's entry is acted on (R32). -/
theorem WashQueue.takeNotice_queued {f : FilterNo} {q : WashQueue} {e : Entry} (h : q.entry f = some e)
    (minute : Count32) (standing : Standing) (urgency : Nat) : q.takeNotice minute f standing urgency =
      (q.setView f ⟨standing, urgency⟩).noticeEntry f e standing urgency := by
  simp only [WashQueue.takeNotice, WashQueue.entry_setView, h]

/-- With its view set, a notice acts on the filter's entry alone. -/
theorem WashQueue.takeNotice_actsOn (minute : Count32) (f : FilterNo) (standing : Standing) (urgency : Nat)
    (q : WashQueue) :
    (q.setView f ⟨standing, urgency⟩).ActsOn f (q.takeNotice minute f standing urgency) := by
  cases h : q.entry f with
  | some e =>
    rw [WashQueue.takeNotice_queued h]
    exact WashQueue.noticeEntry_actsOn (q := q.setView f _) h standing urgency
  | none =>
    cases standing with
    | limit =>
      rw [WashQueue.takeNotice_limit h]
      exact WashQueue.join_actsOn _ _ _ _ _ _ _
    | due =>
      rw [WashQueue.takeNotice_due h]
      exact WashQueue.join_actsOn _ _ _ _ _ _ _
    | hold =>
      rw [WashQueue.takeNotice_unjoined h minute (.inl rfl)]
      exact .refl f _
    | below =>
      rw [WashQueue.takeNotice_unjoined h minute (.inr (.inl rfl))]
      exact .refl f _
    | out =>
      rw [WashQueue.takeNotice_unjoined h minute (.inr (.inr rfl))]
      exact .refl f _

/-- Settles O25, by the two tables: the filter has no entry (R31), or has one (R32). -/
theorem noticeActsOnTheEntry : Obligations.NoticeActsOnTheEntry := by
  intro q minute f standing urgency t
  obtain ⟨views, others, ordered⟩ := q.takeNotice_actsOn minute f standing urgency
  refine ⟨?_, fun g h => ?_, others, ordered, fun unqueued => ⟨?_, ?_, fun other => ?_⟩, fun e queued => ?_⟩
  · rw [views]
    exact q.views_setView_self f _
  · rw [views]
    exact q.views_setView_other f g _ h
  · rintro rfl
    have joins : t = _ := WashQueue.takeNotice_limit unqueued minute urgency
    rw [joins]
    exact ⟨rfl, WashQueue.join_entry _ _ _ _ _ _ _⟩
  · rintro rfl
    have joins : t = _ := WashQueue.takeNotice_due unqueued minute urgency
    rw [joins]
    exact ⟨rfl, WashQueue.join_entry _ _ _ _ _ _ _⟩
  · have kept : t = _ := WashQueue.takeNotice_unjoined unqueued minute other urgency
    rw [kept]
    exact ⟨unqueued, rfl⟩
  · let q1 := q.setView f ⟨standing, urgency⟩
    have acted : t = q1.noticeEntry f e standing urgency :=
      WashQueue.takeNotice_queued queued minute standing urgency
    have placed : ∀ y : Entry, y.filter = e.filter → (q1.place y).entry f = some y :=
      fun _ => WashQueue.entry_replaced (q := q1) queued
    have left : (q1.drop f).entry f = none := q1.entry_drop_self f
    rw [acted]
    refine ⟨q1.noticeEntry_joinCounter f e standing urgency, ?_, ?_, ?_, ?_, ?_⟩
    · rintro rfl
      exact placed _ rfl
    · rintro (rfl | rfl)
      · exact placed _ rfl
      · exact placed _ rfl
    · rintro rfl due
      rw [WashQueue.noticeEntry, if_pos due]
      exact left
    · rintro rfl due
      rw [WashQueue.noticeEntry, if_neg due]
      exact placed _ rfl
    · rintro rfl
      exact left

end Sys2Proof.Machine

/-! PROOFS. READ_QUEUE and READ_JOURNAL; O16. -/

namespace Sys2Proof.Machine

/-! ### Fields as bytes -/

/-- The bytes of an optional number, 0 where it is absent (R159). -/
theorem getD_map_bytes {w : Nat} (g : Nat → List Byte) (zero : g 0 = List.replicate w 0) (v : Option Nat) :
    (v.map g).getD (List.replicate w 0) = g (v.getD 0) := by
  cases v with
  | none => exact zero.symm
  | some n => rfl

/-- The flag bits and the bytes of a field (R159). -/
def Field.parts (x : Field) : List Bool × List Byte := (x.bits, x.body)

/-- A record is made of the parts of its fields (R159). -/
theorem encodeRecord_parts (fs : List Field) :
    encodeRecord fs = packBits (fs.map Field.parts).unzip.1.flatten ++ (fs.map Field.parts).unzip.2.flatten := by
  have bits : (fs.map Field.parts).map Prod.fst = fs.map Field.bits := by rw [List.map_map]; rfl
  have body : (fs.map Field.parts).map Prod.snd = fs.map Field.body := by rw [List.map_map]; rfl
  rw [List.unzip_fst, List.unzip_snd, bits, body]
  rfl

theorem parts_opt1 (v : Option Nat) : (opt1 v).parts = ([v.isSome], u8 (v.getD 0)) := by
  simp only [opt1, Field.parts, Field.bits, Field.body, getD_map_bytes u8 (w := 1) rfl, Option.isSome_map]

theorem parts_opt2 (v : Option Nat) : (opt2 v).parts = ([v.isSome], u16 (v.getD 0)) := by
  simp only [opt2, Field.parts, Field.bits, Field.body, getD_map_bytes u16 (w := 2) rfl, Option.isSome_map]

theorem parts_num1 (n : Nat) : (num1 n).parts = ([], u8 n) := rfl

theorem parts_num2 (n : Nat) : (num2 n).parts = ([], u16 n) := rfl

theorem parts_num4 (n : Nat) : (num4 n).parts = ([], u32 n) := rfl

theorem parts_flag (b : Bool) : (Field.flag b).parts = ([b], []) := rfl

/-- The bytes of the totals, in the order of R42 (log 11). -/
theorem State.queueTotals_bytes (s : State) : encodeRecord s.queueTotals =
    packBits [s.queue.candidate.isSome] ++ u8 s.queue.entries.length ++
      u8 ((s.queue.candidate.map Fin.val).getD 0) ++ u32 s.queue.joinCounter.toNat ++
      u8 s.queue.serviceCount ++ u8 s.queue.floor ++ u8 s.filters.rawClass.code := by
  simp [encodeRecord_parts, State.queueTotals, parts_num1, parts_num4, parts_opt1]

/-- The bytes of an entry, in the order of R42 (log 11). -/
theorem State.entryFields_bytes (s : State) (n : Nat) (e : Entry) : encodeRecord (s.entryFields n e) =
    packBits [e.reason.isSome, e.requestedBy.isSome] ++ u8 n ++ u8 e.filter.val ++
      u8 e.cls.code ++ u8 ((e.reason.map ForcedReason.code).getD 0) ++ u16 e.urgency ++
      u32 e.ticket.toNat ++ u32 e.joinMinute.toNat ++ u8 ((e.requestedBy.map portCode).getD 0) ++
      u8 (s.eligibility e).code := by
  simp [encodeRecord_parts, State.entryFields, parts_num1, parts_num2, parts_num4, parts_opt1]

/-- The bytes of a journal record, in the order of Table 4-6 with the sequence number last (log 12). -/
theorem JournalRec.fields_bytes (r : JournalRec) : encodeRecord r.fields =
    packBits [r.peakWaste.isSome, r.rateClamped, r.flowUnsupervised, r.ripenLong, r.historyUnknown] ++
      u8 r.filter.val ++ u8 ((r.page.map Fin.val).getD 0) ++ u32 r.startMinute.toNat ++
      u32 r.endMinute.toNat ++ u8 r.outcome.code ++ u8 r.cause.code ++ u8 r.stepIndex ++
      u32 r.reservation ++ u32 r.deliveredLitres ++ u8 r.retriesUsed ++
      u16 (r.peakWaste.getD 0) ++ u16 r.sequence.toNat := by
  simp [encodeRecord_parts, JournalRec.fields, parts_num1, parts_num2, parts_num4, parts_opt2, parts_flag]

/-! ### Answers that change nothing -/

/-- A request that only reads is answered from the state before it (R160). -/
theorem State.repliesFrom_of_reads {s : State} {p : Port} {k : ReqKind} {fr : Frame} {r : Reply} (body : Body)
    (h : s.Passes p k fr) (command : exec (k.command p) s = s.whenRunning (State.serve p k body))
    (reads : body p fr.payload (s.popInbound p) = (s.popInbound p, r)) :
    s.RepliesFrom s p k fr r.payloads :=
  ⟨_, command.trans (State.whenRunning_of_running _ s h.1.1), State.serve_replies body h reads⟩

/-- The payloads of an answer of four frames, and of one of five (R154, R160). -/
theorem Reply.four_payloads (a b c d : List Byte) : (Reply.frames [a, b, c, d]).payloads =
    [0x00#8 :: a, 0x10#8 :: b, 0x20#8 :: c, 0xB0#8 :: d] := rfl

theorem Reply.five_payloads (a b c d e : List Byte) : (Reply.frames [a, b, c, d, e]).payloads =
    [0x00#8 :: a, 0x10#8 :: b, 0x20#8 :: c, 0x30#8 :: d, 0xC0#8 :: e] := rfl

/-! ### READ_QUEUE -/

/-- The bytes of the entry at a position of the queue; none beyond its end. -/
def State.shownEntry (s : State) (n : Nat) : List Byte :=
  (s.queue.entries[n]?).toList.flatMap fun e => encodeRecord (s.entryFields n e)

theorem State.entriesFrom_zero (s : State) (start : Nat) : s.entriesFrom start 0 = [] := List.take_zero

/-- One more entry is returned from the position it stands at. -/
theorem State.entryBytes_succ (s : State) (start n : Nat) :
    s.entryBytes (s.entriesFrom start (n + 1)) =
      s.entryBytes (s.entriesFrom start n) ++ s.shownEntry (start + n) := by
  have next : s.entryBytes (((s.queue.entries.zipIdx.map fun x => (x.2, x.1)).drop start)[n]?).toList =
      s.shownEntry (start + n) := by
    rw [List.getElem?_drop, List.getElem?_map, List.getElem?_zipIdx, State.shownEntry, State.entryBytes]
    cases s.queue.entries[start + n]? with
    | none => rfl
    | some e => simp
  rw [← next, State.entriesFrom, List.take_add_one]
  exact List.flatMap_append

theorem State.entryBytes_one (s : State) (start : Nat) :
    s.entryBytes (s.entriesFrom start 1) = s.shownEntry start := by
  rw [State.entryBytes_succ, State.entriesFrom_zero]
  rfl

theorem State.entryBytes_two (s : State) (start : Nat) :
    s.entryBytes (s.entriesFrom start 2) = s.shownEntry start ++ s.shownEntry (start + 1) := by
  rw [State.entryBytes_succ, State.entryBytes_one]

theorem State.length_entriesFrom (s : State) (start count : Nat) :
    (s.entriesFrom start count).length = min count (s.queue.entries.length - start) := by
  simp [State.entriesFrom]

theorem State.entriesFrom_take (s : State) (start count k : Nat) :
    (s.entriesFrom start count).take k = s.entriesFrom start (min k count) := List.take_take

theorem State.entriesFrom_drop (s : State) (start count k : Nat) :
    (s.entriesFrom start count).drop k = s.entriesFrom (start + k) (count - k) := by
  rw [State.entriesFrom, List.drop_take, List.drop_drop]
  rfl

/-- Up to two entries go into the one frame (Table 10-7). -/
theorem State.queueFrames_one (s : State) (start : Nat) {count n : Nat}
    (few : count ≤ 2 ∨ s.queue.entries.length ≤ start + 2) (first : min 2 count = n) :
    s.queueFrames start count = [encodeRecord s.queueTotals ++ s.entryBytes (s.entriesFrom start n)] := by
  have h : (s.entriesFrom start count).length ≤ 2 := by
    rw [State.length_entriesFrom]
    omega
  rw [← first, ← State.entriesFrom_take]
  exact if_pos h

/-- Further ones go into a second frame (Table 10-7). -/
theorem State.queueFrames_two (s : State) (start : Nat) {count n : Nat} (more : count = n + 2) (some_ : 0 < n)
    (held : start + 2 < s.queue.entries.length) :
    s.queueFrames start count =
      [encodeRecord s.queueTotals ++ s.entryBytes (s.entriesFrom start 2),
        s.entryBytes (s.entriesFrom (start + 2) n)] := by
  have h : ¬ (s.entriesFrom start count).length ≤ 2 := by
    rw [State.length_entriesFrom]
    omega
  have first : (s.entriesFrom start count).take 2 = s.entriesFrom start 2 := by
    rw [State.entriesFrom_take, Nat.min_eq_left (by omega)]
  have second : (s.entriesFrom start count).drop 2 = s.entriesFrom (start + 2) n := by
    rw [State.entriesFrom_drop, more, Nat.add_sub_cancel]
  rw [← first, ← second]
  exact if_neg h

theorem State.eligibility_popInbound (s : State) (p : Port) : (s.popInbound p).eligibility = s.eligibility := by
  funext e
  simp [State.eligibility]

theorem State.queueFrames_popInbound (s : State) (p : Port) (start count : Nat) :
    (s.popInbound p).queueFrames start count = s.queueFrames start count := by
  have entries : (s.popInbound p).entriesFrom start count = s.entriesFrom start count := by
    rw [State.entriesFrom, State.popInbound_queue]
    rfl
  have totals : (s.popInbound p).queueTotals = s.queueTotals := by
    rw [State.queueTotals, State.popInbound_queue, State.popInbound_filters]
    rfl
  have bytes : ∀ es, (s.popInbound p).entryBytes es = s.entryBytes es := fun es => by
    simp only [State.entryBytes, State.entryFields, State.eligibility_popInbound]
  simp only [State.queueFrames, entries, totals, bytes]

theorem readQueue_refuses {s : State} {p : Port} {fr : Frame} (h : s.Passes p .readQueue fr)
    (range : 15 < byteAt fr.payload 0 ∨ byteAt fr.payload 1 = 0 ∨ 4 < byteAt fr.payload 1) :
    s.Refuses p .readQueue fr .range := by
  have k := State.repliesFrom_of_reads (r := .refuse .range) readQueueBody h rfl (if_pos range)
  rwa [Reply.refuse_payloads] at k

theorem readQueue_replies {s : State} {p : Port} {fr : Frame} (h : s.Passes p .readQueue fr)
    (range : ¬ (15 < byteAt fr.payload 0 ∨ byteAt fr.payload 1 = 0 ∨ 4 < byteAt fr.payload 1)) :
    s.RepliesFrom s p .readQueue fr
      (Reply.frames (s.queueFrames (byteAt fr.payload 0) (byteAt fr.payload 1))).payloads := by
  refine State.repliesFrom_of_reads readQueueBody h rfl ((if_neg range).trans ?_)
  rw [State.queueFrames_popInbound]

/-! ### READ_JOURNAL -/

/-- The bytes of one of the returned records; none beyond their end. -/
def shownRecord (rs : List JournalRec) (n : Nat) : List Byte := journalBytes (rs[n]?).toList

theorem shownRecord_of_le {rs : List JournalRec} {n : Nat} (h : rs.length ≤ n) : shownRecord rs n = [] := by
  rw [shownRecord, List.getElem?_eq_none h]
  rfl

theorem journalBytes_take_one (rs : List JournalRec) : journalBytes (rs.take 1) = shownRecord rs 0 := by
  cases rs <;> rfl

theorem journalBytes_append (rs qs : List JournalRec) :
    journalBytes (rs ++ qs) = journalBytes rs ++ journalBytes qs := List.flatMap_append

/-- The records from one that is returned on go two to a frame. -/
theorem inPairs_drop {rs : List JournalRec} {n : Nat} (h : n < rs.length) :
    inPairs (rs.drop n) = (shownRecord rs n ++ shownRecord rs (n + 1)) :: inPairs (rs.drop (n + 2)) := by
  have first : shownRecord rs n = journalBytes [rs[n]] := by
    rw [shownRecord, List.getElem?_eq_getElem h]
    rfl
  rw [List.drop_eq_getElem_cons h]
  by_cases more : n + 1 < rs.length
  · have second : shownRecord rs (n + 1) = journalBytes [rs[n + 1]] := by
      rw [shownRecord, List.getElem?_eq_getElem more]
      rfl
    rw [List.drop_eq_getElem_cons more, first, second]
    rw [← journalBytes_append]
    rfl
  · rw [shownRecord_of_le (not_lt.1 more), first, List.drop_eq_nil_of_le (not_lt.1 more),
      List.drop_eq_nil_of_le (by omega), List.append_nil]
    rfl

theorem inPairs_drop_of_le {rs : List JournalRec} {n : Nat} (h : rs.length ≤ n) : inPairs (rs.drop n) = [] := by
  rw [List.drop_eq_nil_of_le h]
  rfl

theorem readJournal_refuses {s : State} {p : Port} {fr : Frame} (h : s.Passes p .readJournal fr)
    (range : byteAt fr.payload 2 = 0 ∨ 8 < byteAt fr.payload 2) : s.Refuses p .readJournal fr .range := by
  have k := State.repliesFrom_of_reads (r := .refuse .range) readJournalBody h rfl (if_pos range)
  rwa [Reply.refuse_payloads] at k

theorem readJournal_replies {s : State} {p : Port} {fr : Frame} (h : s.Passes p .readJournal fr)
    (range : ¬ (byteAt fr.payload 2 = 0 ∨ 8 < byteAt fr.payload 2)) :
    s.RepliesFrom s p .readJournal fr (Reply.frames
      (s.journal.frames (BitVec.ofNat 16 (word16At fr.payload 0)) (byteAt fr.payload 2))).payloads := by
  refine State.repliesFrom_of_reads readJournalBody h rfl ((if_neg range).trans ?_)
  rw [State.popInbound_journal]

/-- The frames of a READ_JOURNAL answer, its records returned from the start (R146, Table 10-7). -/
theorem Journal.frames_eq (j : Journal) (start : Count16) (count : Nat) :
    j.frames start count = (j.header start ++ shownRecord (j.recordsFrom start count) 0) ::
      inPairs ((j.recordsFrom start count).drop 1) := by
  rw [← journalBytes_take_one]
  rfl

/-- The records are returned from the start sequence if it is held, from the oldest if not (R146). -/
theorem Journal.recordsFrom_eq (j : Journal) (start : Count16) (count : Nat) :
    j.recordsFrom start count =
      (if j.holds start then j.records.drop (start - j.oldest).toNat else j.records).take count := by
  unfold Journal.recordsFrom
  split <;> rfl

/-- Settles O16, from the frames of the two answers and the bytes of their records. -/
theorem queueAndJournalAreRead : Obligations.QueueAndJournalAreRead := by
  refine ⟨fun s p fr h => ?_, fun s p fr h => ?_⟩
  · intro start count shown totals
    have shown_eq : ∀ n, shown n = s.shownEntry (start + n) := fun n => by
      simp only [shown, State.shownEntry, State.entryFields_bytes]
    have totals_eq : totals = encodeRecord s.queueTotals := s.queueTotals_bytes.symm
    have reply : ∀ {fs}, start ≤ 15 → 1 ≤ count → count ≤ 4 → s.queueFrames start count = fs →
        s.RepliesFrom s p .readQueue fr (Reply.frames fs).payloads := fun low some_ few frames =>
      frames ▸ readQueue_replies h (by omega)
    have oneFrame := @State.queueFrames_one s start count
    have twoFrames := @State.queueFrames_two s start count
    rw [totals_eq]
    simp only [shown_eq]
    refine ⟨readQueue_refuses h, fun low n => ?_, fun low n => ?_, fun low n few => ?_, fun low n more => ?_,
      fun low n few => ?_, fun low n more => ?_⟩
    · exact State.entryBytes_one s start ▸ reply low (by omega) (by omega) (oneFrame (by omega) (by omega))
    · exact State.entryBytes_two s start ▸ reply low (by omega) (by omega) (oneFrame (by omega) (by omega))
    · exact State.entryBytes_two s start ▸ reply low (by omega) (by omega) (oneFrame (by omega) (by omega))
    · exact State.entryBytes_two s start ▸ State.entryBytes_one s (start + 2) ▸
        reply low (by omega) (by omega) (twoFrames n (by omega) more)
    · exact State.entryBytes_two s start ▸ reply low (by omega) (by omega) (oneFrame (by omega) (by omega))
    · exact State.entryBytes_two s start ▸ State.entryBytes_two s (start + 2) ▸
        reply low (by omega) (by omega) (twoFrames n (by omega) more)
  · intro start count held oldest isHeld rs header shown
    have rs_eq : rs = s.journal.recordsFrom start count := (s.journal.recordsFrom_eq start count).symm
    have shown_eq : ∀ n, shown n = shownRecord rs n := fun n => by
      simp only [shown, shownRecord, journalBytes, JournalRec.fields_bytes]
    refine ⟨readJournal_refuses h, fun some_ few => ?_⟩
    have reply : ∀ {pls fs}, (Reply.frames ((header ++ shownRecord rs 0) :: fs)).payloads = pls →
        inPairs (rs.drop 1) = fs → s.RepliesFrom s p .readJournal fr pls := by
      rintro _ _ rfl rfl
      have k := readJournal_replies h (by omega)
      rwa [Journal.frames_eq, ← rs_eq] at k
    simp only [shown_eq]
    refine ⟨fun most => ?_, fun least most => ?_, fun least most => ?_, fun least most => ?_, fun all => ?_⟩
    · exact reply (Reply.single_payloads _) (inPairs_drop_of_le most)
    · refine reply (Reply.pair_payloads _ _) ?_
      rw [inPairs_drop (by omega), inPairs_drop_of_le (by omega)]
    · refine reply (Reply.triple_payloads _ _ _) ?_
      rw [inPairs_drop (by omega), inPairs_drop (by omega), inPairs_drop_of_le (by omega)]
    · refine reply (Reply.four_payloads _ _ _ _) ?_
      rw [inPairs_drop (by omega), inPairs_drop (by omega), inPairs_drop (by omega),
        inPairs_drop_of_le (by omega)]
    · refine reply (Reply.five_payloads _ _ _ _ _) ?_
      rw [inPairs_drop (by omega), inPairs_drop (by omega), inPairs_drop (by omega), inPairs_drop (by omega),
        inPairs_drop_of_le (by omega), shownRecord_of_le (n := 8) (by omega), List.append_nil]

end Sys2Proof.Machine

/-! PROOFS. The demand, reservation and volume arithmetic; O28 and O29. -/

namespace Sys2Proof.Machine

/-! ### Demand and reservation (R52, R53) -/

theorem stepDemand_of_isWater {x : StepRec} (h : x.kind.isWater = true) (area capacity : Nat) :
    stepDemand area capacity x = min capacity (rawDemand x.rate area) := if_pos h

theorem stepDemand_of_dry {x : StepRec} (h : x.kind.isWater = false) (area capacity : Nat) :
    stepDemand area capacity x = 0 := if_neg (Bool.eq_false_iff.1 h)

theorem stepClamped_iff {x : StepRec} (h : x.kind.isWater = true) (area capacity : Nat) :
    stepClamped area capacity x = true ↔ capacity < rawDemand x.rate area := by
  simp [stepClamped, h]

theorem StepKind.isWater_iff (k : StepKind) : k.isWater = true ↔ k = .airWater ∨ k = .water := by
  cases k <;> simp [StepKind.isWater]

/-- The product over 360, rounded half up (R52). -/
theorem rawDemand_bounds (rate area : Nat) :
    360 * rawDemand rate area ≤ rate * area + 180 ∧ rate * area + 180 < 360 * (rawDemand rate area + 1) := by
  unfold rawDemand
  omega

theorem reservation_cons (area capacity : Nat) (x : StepRec) (steps : List StepRec) :
    reservation area capacity (x :: steps) =
      stepDemand area capacity x * x.duration * x.repeats + reservation area capacity steps := by
  simp [reservation]

/-- A step in range asks for at most 7500 L/s on the largest filter (R52, R64). -/
theorem stepDemand_le {x : StepRec} (h : x.InRange) {area : Nat} (small : area ≤ 3000) (capacity : Nat) :
    stepDemand area capacity x ≤ 7500 := by
  obtain ⟨-, -, rate, -⟩ := h
  cases water : x.kind.isWater with
  | false => simp [stepDemand_of_dry water]
  | true =>
    have product : x.rate * area ≤ 900 * 3000 := Nat.mul_le_mul (by simp [water] at rate; omega) small
    rw [stepDemand_of_isWater water]
    refine (Nat.min_le_right _ _).trans ?_
    unfold rawDemand
    omega

/-- Each step in range reserves at most 108 000 000 L (R53, R64). -/
theorem reservation_le (capacity : Nat) {area : Nat} (small : area ≤ 3000) (steps : List StepRec)
    (h : ∀ x ∈ steps, x.InRange) : reservation area capacity steps ≤ 108000000 * steps.length := by
  induction steps with
  | nil => exact Nat.le_refl 0
  | cons x steps ih =>
    have first := h x List.mem_cons_self
    have rest := ih fun y hy => h y (List.mem_cons_of_mem _ hy)
    have demand := stepDemand_le first small capacity
    obtain ⟨⟨-, duration⟩, ⟨-, repeats⟩, -⟩ := first
    have one := Nat.mul_le_mul (Nat.mul_le_mul demand duration) repeats
    rw [reservation_cons, List.length_cons]
    omega

/-- Settles O28, by the bounds of the rounded product and, for sound programmes, of each step's part. -/
theorem reservationSumsDemands : Obligations.ReservationSumsDemands := by
  intro area capacity x steps
  refine ⟨fun kind => ?_, fun air water => ?_, rfl, reservation_cons area capacity x steps,
    fun small sound => ?_⟩
  · have water := (StepKind.isWater_iff x.kind).2 kind
    have clamped := stepClamped_iff water area capacity
    obtain ⟨low, high⟩ := rawDemand_bounds x.rate area
    rw [stepDemand_of_isWater water]
    refine ⟨Nat.min_le_left _ _, clamped.trans ⟨fun h => by omega, fun h => by omega⟩, fun h => ?_, fun h => ?_⟩
    · have free : rawDemand x.rate area ≤ capacity := Nat.le_of_not_lt fun k => by simp [clamped.2 k] at h
      rw [Nat.min_eq_right free]
      exact ⟨low, high⟩
    · exact Nat.min_eq_left (clamped.1 h).le
  · refine stepDemand_of_dry (Bool.eq_false_iff.2 fun k => ?_) area capacity
    exact ((StepKind.isWater_iff x.kind).1 k).elim air water
  · obtain ⟨⟨-, length⟩, ranges, -⟩ := sound
    have bound := reservation_le capacity small steps ranges
    omega

/-! ### Tank and basin (R54, R55) -/

/-- A depth times an area over 10, the remainder discarded. -/
theorem volume_bounds (depth area : Nat) :
    10 * (depth * area / 10) ≤ depth * area ∧ depth * area < 10 * (depth * area / 10) + 10 := by
  omega

/-- No depth and area in range hold more than 19 998 000 L (Tables 7-3 and 8-3). -/
theorem volume_le {depth area : Nat} (deep : depth ≤ 9999) (wide : area ≤ 20000) :
    depth * area / 10 ≤ 19998000 := by
  have := Nat.mul_le_mul deep wide
  omega

/-- Settles O29, by the depth on the one side of the reserve and of the maximum, and on the other. -/
theorem tankAndBasinVolumes : Obligations.TankAndBasinVolumes := by
  intro q level
  refine ⟨fun h => ?_, fun d h => ?_, fun h => ?_, fun d h => ?_, fun range h => ?_⟩
  · simp [tankAvailable, Nat.sub_eq_zero_of_le h]
  · subst h
    rw [tankAvailable, Nat.add_sub_cancel_left]
    exact volume_bounds d q.tankArea
  · simp [basinFree, Nat.sub_eq_zero_of_le h]
  · rw [basinFree, h, Nat.add_sub_cancel_left]
    exact volume_bounds d q.basinArea
  · obtain ⟨-, -, -, -, -, -, -, ⟨-, tank⟩, -, ⟨-, basin⟩, maximum, -⟩ := range
    exact ⟨volume_le (by omega) tank, volume_le (by omega) basin⟩

end Sys2Proof.Machine

/-! PROOFS. What holds still in the inner blocks while a rotation, a grant or a step of a wash goes on. -/

namespace Sys2Proof.Machine

/-! ### What holds still -/

/-- The settings that a filter record takes from the plant page (Table 1-2). -/
def FilterRec.settings (r : FilterRec) := (r.area, r.programme, r.headlossLimit, r.turbidityLimit, r.runLimit)

/-- What a filter record says of its ended washes, apart from an owed WASH_END (R9). -/
def FilterRec.history (r : FilterRec) :=
  (r.washCount, r.abortCount, r.lastOutcome, r.lastCause, r.lastSequence)

/-- The two measurements of a filter record (R13). -/
def FilterRec.measures (r : FilterRec) := (r.headloss, r.turbidity)

/-- A filter record goes over to one with the same settings, history and measurements. -/
structure FilterRec.Steady (r q : FilterRec) : Prop where
  settings : q.settings = r.settings
  history : q.history = r.history
  measures : q.measures = r.measures

theorem FilterRec.Steady.refl (r : FilterRec) : r.Steady r := ⟨rfl, rfl, rfl⟩

theorem FilterRec.Steady.trans {r q u : FilterRec} (h : r.Steady q) (k : q.Steady u) : r.Steady u :=
  ⟨k.settings.trans h.settings, k.history.trans h.history, k.measures.trans h.measures⟩

/-- Every flag latched in the one set is latched in the other (R147). -/
def FlagSet.Within (a b : FlagSet) : Prop := ∀ x : Flag, a.getLsbD x.bit = true → b.getLsbD x.bit = true

theorem FlagSet.Within.refl (a : FlagSet) : FlagSet.Within a a := fun _ => id

theorem FlagSet.Within.or (a b : FlagSet) : FlagSet.Within a (a ||| b) := fun x h => by
  rw [BitVec.getLsbD_or, h, Bool.true_or]

/-- What the supervisor and the Supply Monitor have told the Admission Unit (R49, R51). -/
def AdmissionUnit.told (u : AdmissionUnit) :=
  (u.paused, u.tankLevel, u.basinLevel, u.primed, u.tankView, u.flowView, u.basinView)

/-- The water bar view of the arbiter (R92). -/
def Arbiter.bars (a : Arbiter) := (a.tankLow, a.basinFull, a.tankFault, a.flowFault)

/-- The monitor without its view of the holder, which follows the grants (R128). -/
def Monitor.measured (m : Monitor) : Monitor := { m with waterView := none }

/-- What stands beside the filters and the flags while a rotation, a grant or a step of a wash goes on. -/
def State.steadyParts (s : State) :=
  ((s.pending, s.inReset, s.lineRate, s.clock, s.seconds), s.ports, s.store, s.journal, s.filters.rawClass,
    s.queue.floor, s.admission.told, s.arbiter.bars, s.monitor.measured)

/-- What no rotation, no grant and no step of a wash changes. -/
structure State.Steady (s t : State) : Prop where
  parts : t.steadyParts = s.steadyParts
  filters : ∀ f, (s.filter f).Steady (t.filter f)
  latched : FlagSet.Within s.status.latched t.status.latched

theorem State.Steady.refl (s : State) : s.Steady s := ⟨rfl, fun _ => .refl _, .refl _⟩

theorem State.Steady.trans {s t u : State} (h : s.Steady t) (k : t.Steady u) : s.Steady u :=
  ⟨k.parts.trans h.parts, fun f => (h.filters f).trans (k.filters f), fun x => k.latched x ∘ h.latched x⟩

theorem State.Steady.of_parts {s t : State} (parts : t.steadyParts = s.steadyParts)
    (filters : t.filters.records = s.filters.records) (status : t.status = s.status) : s.Steady t where
  parts := parts
  filters f := by
    rw [show t.filter f = s.filter f by simp only [State.filter, filters]]
    exact .refl _
  latched := status ▸ .refl _

theorem State.Steady.ports {s t : State} (h : s.Steady t) : t.ports = s.ports := congrArg (·.2.1) h.parts

theorem State.Steady.store {s t : State} (h : s.Steady t) : t.store = s.store := congrArg (·.2.2.1) h.parts

theorem State.Steady.journal {s t : State} (h : s.Steady t) : t.journal = s.journal :=
  congrArg (·.2.2.2.1) h.parts

theorem State.Steady.rawClass {s t : State} (h : s.Steady t) : t.filters.rawClass = s.filters.rawClass :=
  congrArg (·.2.2.2.2.1) h.parts

theorem State.Steady.floor {s t : State} (h : s.Steady t) : t.queue.floor = s.queue.floor :=
  congrArg (·.2.2.2.2.2.1) h.parts

theorem State.Steady.told {s t : State} (h : s.Steady t) : t.admission.told = s.admission.told :=
  congrArg (·.2.2.2.2.2.2.1) h.parts

theorem State.Steady.bars {s t : State} (h : s.Steady t) : t.arbiter.bars = s.arbiter.bars :=
  congrArg (·.2.2.2.2.2.2.2.1) h.parts

theorem State.Steady.measured {s t : State} (h : s.Steady t) : t.monitor.measured = s.monitor.measured :=
  congrArg (·.2.2.2.2.2.2.2.2) h.parts

theorem State.Steady.plant {s t : State} (h : s.Steady t) : t.plant = s.plant :=
  congrArg PageStore.inForce h.store

/-- The channels stand in the part of the monitor that the grants do not reach. -/
theorem State.Steady.channel {s t : State} (h : s.Steady t) (c : Channel) :
    t.monitor.channel c = s.monitor.channel c := by
  cases c
  · exact (congrArg Monitor.tank h.measured :)
  · exact (congrArg Monitor.flow h.measured :)
  · exact (congrArg Monitor.basin h.measured :)

/-- The Admission Unit's view of a channel is among what it has been told. -/
theorem State.Steady.view {s t : State} (h : s.Steady t) (c : Channel) :
    t.admission.view c = s.admission.view c := by
  cases c
  · exact congrArg (·.2.2.2.2.1) h.told
  · exact congrArg (·.2.2.2.2.2.1) h.told
  · exact congrArg (·.2.2.2.2.2.2) h.told

theorem State.Steady.foldl {α : Type} (f : State → α → State) (l : List α) (s : State)
    (h : ∀ (t : State) (a : α), t.Steady (f t a)) : s.Steady (l.foldl f s) := by
  induction l generalizing s with
  | nil => exact .refl s
  | cons a l ih => exact (h s a).trans (ih _)

theorem State.chosen_steady (s : State) : s.Steady s.chosen := .of_parts rfl rfl rfl

theorem State.setSlot_steady (i : SlotId) (x : Slot) (s : State) : s.Steady (s.setSlot i x) := by
  cases i <;> exact .of_parts rfl rfl rfl

/-- A queue with the same floor takes the place of the queue. -/
theorem State.Steady.of_queue (s : State) {q : WashQueue} (floor : q.floor = s.queue.floor) :
    s.Steady { s with queue := q } := .of_parts (by simp only [State.steadyParts, floor]) rfl rfl

/-- An Admission Unit that has been told the same takes the place of the Admission Unit. -/
theorem State.Steady.of_admission (s : State) {u : AdmissionUnit} (told : u.told = s.admission.told) :
    s.Steady { s with admission := u } := .of_parts (by simp only [State.steadyParts, told]) rfl rfl

/-! ### The Filter Table -/

theorem State.setFilter_steady (f : FilterNo) (r : FilterRec) (s : State) (h : (s.filter f).Steady r) :
    s.Steady (s.setFilter f r) where
  parts := rfl
  filters g := by
    by_cases e : g = f
    · subst e
      rwa [State.filter_setFilter_self]
    · rw [State.filter_setFilter_other _ _ _ _ e]
      exact .refl _
  latched := .refl _

theorem State.countTransition_steady (was now : FilterState) (s : State) :
    s.Steady (s.countTransition was now) := by
  unfold State.countTransition
  repeat' split
  all_goals exact .of_parts rfl rfl rfl

theorem State.standingNotice_steady (f : FilterNo) (s : State) : s.Steady (s.standingNotice f) := by
  obtain ⟨es, n, m, v, h⟩ := s.queue.takeNotice_shape s.clock f (s.filter f).standing (s.filter f).urgency
  exact .of_queue s (by rw [h])

/-- A filed record may differ in its standing beside what was given. -/
theorem State.fileFilter_steady (f : FilterNo) (r : FilterRec) (s : State) (h : (s.filter f).Steady r) :
    s.Steady (s.fileFilter f r) := by
  have filed := State.setFilter_steady f { r with standing := r.deriveStanding s.dueThreshold } s
    ⟨h.settings, h.history, h.measures⟩
  unfold State.fileFilter
  extract_lets old new s1
  split
  · exact filed
  · exact filed.trans (State.standingNotice_steady f s1)

theorem State.signalSlot_steady (f : FilterNo) (g : Slot → Slot) (s : State) :
    s.Steady (s.signalSlot f g) := by
  obtain ⟨-, h⟩ | ⟨i, -, h⟩ := State.signalSlot_cases f g s
  · rw [h]
    exact .refl s
  · rw [h]
    exact State.setSlot_steady i _ s

theorem State.staleChanged_steady (f : FilterNo) (was now : Bool) (s : State) :
    s.Steady (s.staleChanged f was now) := by
  unfold State.staleChanged
  split
  · exact .refl s
  · exact State.signalSlot_steady f _ s

theorem State.modeChange_steady (f : FilterNo) (mode : FilterState) (minutes : Option Nat) (s : State) :
    s.Steady (s.modeChange f mode minutes) := by
  unfold State.modeChange
  extract_lets r r1 r2
  refine (State.countTransition_steady r.state mode s).trans (State.fileFilter_steady f r2 _ ?_)
  rw [State.countTransition_filter]
  cases minutes <;> exact ⟨rfl, rfl, rfl⟩

theorem State.filterMinute_steady (f : FilterNo) (s : State) : s.Steady (s.filterMinute f) := by
  unfold State.filterMinute
  extract_lets r aged
  have older : r.Steady aged := ⟨rfl, rfl, rfl⟩
  split
  · exact .refl s
  · exact State.setFilter_steady f _ s older
  · exact State.fileFilter_steady f _ s ⟨rfl, rfl, rfl⟩
  · exact (State.setFilter_steady f _ s older).trans (State.staleChanged_steady _ _ _ _)

theorem State.filtersMinute_steady (s : State) : s.Steady s.filtersMinute :=
  .foldl _ _ s fun t f => State.filterMinute_steady f t

theorem State.restand_steady (f : FilterNo) (s : State) : s.Steady (s.restand f) := by
  unfold State.restand
  split
  · exact State.fileFilter_steady f _ s (.refl _)
  · exact State.fileFilter_steady f _ s (.refl _)
  · exact .refl s

theorem State.clearWashFailed_steady (f : FilterNo) (s : State) : s.Steady (s.clearWashFailed f) := by
  unfold State.clearWashFailed
  split
  · exact State.fileFilter_steady f _ s ⟨rfl, rfl, rfl⟩
  · exact .refl s

theorem State.defer_steady (f : FilterNo) (s : State) : s.Steady (s.defer f) :=
  State.fileFilter_steady f _ s ⟨rfl, rfl, rfl⟩

theorem State.filterAdmitted_steady (f : FilterNo) (s : State) : s.Steady (s.filterAdmitted f) := by
  refine (State.countTransition_steady (s.filter f).state .wash s).trans (State.setFilter_steady f _ _ ?_)
  rw [State.countTransition_filter]
  exact ⟨rfl, rfl, rfl⟩

/-! ### Conditions and flags -/

theorem State.latchFlag_steady (x : Flag) (s : State) : s.Steady (s.latchFlag x) :=
  ⟨rfl, fun _ => .refl _, .or _ _⟩

theorem State.setLive_steady (x : Flag) (value : Bool) (s : State) : s.Steady (s.setLive x value) := by
  cases value
  · exact ⟨rfl, fun _ => .refl _, .refl _⟩
  · exact ⟨rfl, fun _ => .refl _, .or _ _⟩

theorem State.handLive_steady (x : Flag) (was now : Bool) (s : State) : s.Steady (s.handLive x was now) := by
  unfold State.handLive
  split
  · exact .refl s
  · exact State.setLive_steady x now s

theorem State.evalAlerts_steady (s : State) : s.Steady s.evalAlerts := ⟨rfl, fun _ => .refl _, .refl _⟩

theorem State.evalStall_steady (s : State) : s.Steady s.evalStall := by
  refine State.Steady.trans ?_ (State.handLive_steady _ _ _ _)
  exact .of_admission s rfl

theorem State.evalForced_steady (s : State) : s.Steady s.evalForced := by
  refine State.Steady.trans ?_ (State.handLive_steady _ _ _ _)
  exact .of_admission s rfl

theorem State.evalRotation_steady (s : State) : s.Steady s.evalRotation :=
  s.evalForced_steady.trans (State.evalStall_steady _)

theorem State.takeList_steady (before : WashQueue) (s : State) : s.Steady (s.takeList before) := by
  unfold State.takeList
  split
  · exact s.evalForced_steady
  · exact .refl s

/-! ### Grants -/

theorem State.grantRequest_steady (r : Request) (s : State) : s.Steady (s.grantRequest r) := by
  unfold State.grantRequest
  cases r.slot <;> exact .of_parts rfl rfl rfl

theorem State.grantPass_steady (s : State) : s.Steady s.grantPass :=
  State.grantPass_keeps (s.Steady ·) s (.refl s) fun t r h _ => h.trans (State.grantRequest_steady r t)

theorem State.enterWaitSupply_steady (i : SlotId) (set : SupplySet) (s : State) :
    s.Steady (s.enterWaitSupply i set) := by
  unfold State.enterWaitSupply
  refine State.Steady.trans ?_ (State.grantPass_steady _)
  cases i <;> exact .of_parts rfl rfl rfl

theorem State.release_steady (i : SlotId) (s : State) : s.Steady (s.release i) := by
  unfold State.release
  split
  · refine State.Steady.trans ?_ (State.grantPass_steady _)
    cases i <;> exact .of_parts rfl rfl rfl
  · exact .refl s

theorem State.withdraw_steady (i : SlotId) (s : State) : s.Steady (s.withdraw i) := .of_parts rfl rfl rfl

theorem State.leaveRun_steady (i : SlotId) (s : State) : s.Steady (s.leaveRun i) :=
  (State.release_steady i s).trans (State.setSlot_steady i _ _)

theorem State.redriveDemand_steady (i : SlotId) (s : State) : s.Steady (s.redriveDemand i) := by
  unfold State.redriveDemand
  split
  · exact .of_parts rfl rfl rfl
  · exact .refl s

/-! ### Presence -/

theorem State.halt_steady (i : SlotId) (s : State) : s.Steady (s.halt i) :=
  ((State.release_steady i s).trans (State.withdraw_steady i _)).trans (State.setSlot_steady i _ _)

theorem State.losePresence_steady (i : SlotId) (s : State) : s.Steady (s.losePresence i) := by
  unfold State.losePresence
  split
  case h_5 | h_6 => exact .refl s
  all_goals exact State.halt_steady i s

theorem State.regainPresence_steady (i : SlotId) (s : State) : s.Steady (s.regainPresence i) := by
  unfold State.regainPresence
  split
  · exact State.setSlot_steady i _ s
  · exact .refl s

theorem State.slotPresence_steady (before : Vector Bool 16) (i : SlotId) (s : State) :
    s.Steady (s.slotPresence before i) := by
  unfold State.slotPresence
  split
  · exact .refl s
  · split_ifs
    · exact State.losePresence_steady i s
    · exact State.regainPresence_steady i s
    · exact .refl s

theorem State.slotsPresence_steady (before : Vector Bool 16) (s : State) :
    s.Steady (s.slotsPresence before) := by
  obtain ⟨t, ht, h⟩ := State.slotsPresence_cases before s
  have start : s.Steady t := by
    obtain rfl | rfl := ht
    · exact .refl t
    · exact s.chosen_steady
  obtain h | h := h
  · rw [h]
    exact (start.trans (State.slotPresence_steady _ _ _)).trans (State.slotPresence_steady _ _ _)
  · rw [h]
    exact (start.trans (State.slotPresence_steady _ _ _)).trans (State.slotPresence_steady _ _ _)

/-! ### Admission and examination -/

theorem State.admitFilter_steady (f : FilterNo) (needed : Nat) (s : State) :
    s.Steady (s.admitFilter f needed) := by
  unfold State.admitFilter
  extract_lets ticket i x s1 s2 s3 u s4
  have left : s.Steady s1 := .of_queue s rfl
  have bound : s.Steady s3 :=
    (left.trans (State.filterAdmitted_steady f s1)).trans (State.setSlot_steady i x s2)
  have counted : s.Steady s4 := bound.trans (.of_admission s3 rfl)
  split
  · exact counted
  · exact counted.trans (State.losePresence_steady i s4)

theorem State.choose_steady (s : State) : s.Steady s.choose.2 := by
  unfold State.choose
  extract_lets c u
  split
  · exact .refl s
  · refine (State.Steady.of_queue s (q := { s.queue with candidate := c }) rfl).trans (.of_admission _ ?_)
    split <;> rfl

theorem State.examine_steady (n : Nat) (s : State) : s.Steady (s.examine n) := by
  refine State.examine_keeps (s.Steady ·) n s (.refl s) (fun t reason needed h => ?_)
    (fun t f needed h _ _ _ => ?_) fun t h => ?_
  · exact h.trans (.of_admission t rfl)
  · exact h.trans (State.admitFilter_steady f needed t)
  · exact h.trans t.choose_steady

theorem State.reconsider_steady (s : State) : s.Steady s.reconsider :=
  (s.choose_steady.trans (State.examine_steady 3 _)).trans (State.evalRotation_steady _)

theorem State.rotate_steady (s : State) : s.Steady s.rotate := by
  unfold State.rotate
  extract_lets t
  refine State.Steady.trans ?_ (State.evalRotation_steady _)
  split
  · exact s.choose_steady.trans (State.examine_steady 3 _)
  · exact s.choose_steady

theorem State.rotateFrom_steady (before : WashQueue) (s : State) : s.Steady (s.rotateFrom before) :=
  (State.takeList_steady before s).trans (State.rotate_steady _)

theorem State.slotFreed_steady (s : State) : s.Steady s.slotFreed := by
  refine State.Steady.trans ?_ (State.reconsider_steady _)
  exact .of_admission s rfl

end Sys2Proof.Machine

/-! PROOFS. The examination of the candidate: the conditions in their order, and the admission; O31. -/

namespace Sys2Proof.Machine

/-! ### The conditions in their order (R47) -/

/-- The monitor is ready once primed, with every channel out of fault and fresh (R51). -/
theorem AdmissionUnit.monitorReady_iff (u : AdmissionUnit) :
    u.monitorReady = true ↔
      u.primed = true ∧ u.tankView = ⟨false, true⟩ ∧ u.flowView = ⟨false, true⟩ ∧
        u.basinView = ⟨false, true⟩ := by
  have view : ∀ v : ChannelView, v = ⟨false, true⟩ ↔ v.fault = false ∧ v.fresh = true := fun ⟨_, _⟩ => by simp
  simp only [AdmissionUnit.monitorReady, Bool.and_eq_true, Bool.not_eq_true', view]
  tauto

theorem State.verdict_slot {s : State} (f : FilterNo) (full : 2 ≤ s.admission.activeCount) :
    s.verdict f = .waits .slot none := if_pos (Nat.not_lt.2 full)

theorem State.verdict_concurrency {s : State} (f : FilterNo) (slot : s.admission.activeCount < 2)
    (most : s.plant.maxConcurrent ≤ s.admission.activeCount) : s.verdict f = .waits .concurrency none := by
  simp [State.verdict, slot, most]

section
variable {s : State} (f : FilterNo) (slot : s.admission.activeCount < 2)
  (concurrency : s.admission.activeCount < s.plant.maxConcurrent)
include slot concurrency

theorem State.verdict_paused (paused : s.admission.paused = true) : s.verdict f = .waits .paused none := by
  simp [State.verdict, slot, concurrency, paused]

variable (running : s.admission.paused = false) (spacing : s.admission.spacing = none)
include running spacing

theorem State.verdict_monitor (ready : s.admission.monitorReady = false) :
    s.verdict f = .waits .monitor none := by
  simp [State.verdict, slot, concurrency, running, spacing, ready]

variable (ready : s.admission.monitorReady = true)
include ready

theorem State.verdict_tank
    (short : tankAvailable s.plant (s.admission.tankLevel.getD 0) < s.neededVolume f) :
    s.verdict f = .waits .tank (some (s.neededVolume f)) := by
  simp [State.verdict, slot, concurrency, running, spacing, ready, short]

variable (tank : s.neededVolume f ≤ tankAvailable s.plant (s.admission.tankLevel.getD 0))
include tank

theorem State.verdict_basin (short : basinFree s.plant (s.admission.basinLevel.getD 0) < s.neededVolume f) :
    s.verdict f = .waits .basin (some (s.neededVolume f)) := by
  simp [State.verdict, slot, concurrency, running, spacing, ready, Nat.not_lt.2 tank, short]

theorem State.verdict_fits (basin : s.neededVolume f ≤ basinFree s.plant (s.admission.basinLevel.getD 0)) :
    s.verdict f = .fits (s.neededVolume f) := by
  simp [State.verdict, slot, concurrency, running, spacing, ready, Nat.not_lt.2 tank, Nat.not_lt.2 basin]

end

/-! ### The examination -/

/-- With its candidate current the queue makes no report (R40, R45). -/
theorem State.choose_of_current {s : State} (h : s.queue.candidate = s.firstEligible) :
    s.choose = (false, s) := by
  simp [State.choose, h]

/-- An examination of a candidate that must wait sets the reason and the volume, and ends there (R47). -/
theorem State.examine_waits {s : State} {f : FilterNo} {reason : WaitReason} {volume : Option Nat}
    (candidate : s.admission.candidate = some f) (h : s.verdict f = .waits reason volume) (n : Nat) :
    s.examine (n + 1) = { s with admission := s.admission.waitWith reason volume } := by
  simp only [State.examine, candidate, h]

theorem State.filterAdmitted_state (f g : FilterNo) (s : State) :
    ((s.filterAdmitted f).filter g).state = if g = f then .wash else (s.filter g).state := by
  unfold State.filterAdmitted
  split
  · next e =>
    subst e
    rw [State.filter_setFilter_self]
  · next e => rw [State.filter_setFilter_other _ _ _ _ e, State.countTransition_filter]

/-- An admission takes its filter to WASH, and every other filter stays in its state (R6, R57). -/
theorem State.admitFilter_state (f g : FilterNo) (needed : Nat) (s : State) :
    ((s.admitFilter f needed).filter g).state = if g = f then .wash else (s.filter g).state := by
  unfold State.admitFilter
  extract_lets ticket i x s1 s2 s3 u s4
  have admitted : (s4.filter g).state = if g = f then .wash else (s.filter g).state :=
    (congrArg FilterRec.state (State.filter_setSlot s2 i x g)).trans (State.filterAdmitted_state f g s1)
  split
  · exact admitted
  · obtain ⟨y, z, a, v, h⟩ := State.losePresence_shape i s4
    rw [h]
    exact admitted

/-- A filter in WASH stays there through examinations (R6). -/
theorem State.examine_wash (n : Nat) (f : FilterNo) (s : State) (h : (s.filter f).state = .wash) :
    ((s.examine n).filter f).state = .wash := by
  refine State.examine_keeps (fun t => (t.filter f).state = .wash) n s h (fun _ _ _ k => k)
    (fun t g needed k _ _ _ => ?_) fun t k => ?_
  · rw [State.admitFilter_state]
    split
    · rfl
    · exact k
  · obtain ⟨c, u, e⟩ := State.choose_shape t
    rw [e]
    exact k

/-- An examination that finds every condition met admits the candidate (R47, R57). -/
theorem State.examine_fits {s : State} {f : FilterNo} {needed : Nat}
    (candidate : s.admission.candidate = some f) (first : s.firstEligible = some f)
    (h : s.verdict f = .fits needed) (n : Nat) : ((s.examine (n + 1)).filter f).state = .wash := by
  have chosen : ((s.admitFilter f needed).choose.2.filter f).state = .wash := by
    obtain ⟨c, u, e⟩ := State.choose_shape (s.admitFilter f needed)
    rw [e]
    exact (State.admitFilter_state f f needed s).trans (if_pos rfl)
  unfold State.examine
  simp only [candidate, h, first, if_true]
  split
  · exact State.examine_wash n f _ chosen
  · exact chosen

/-! ### After the examination -/

/-- The candidate waits, for a reason and a volume; no wash has been bound to a slot (R47). -/
def State.WaitsFor (s t : State) (f : FilterNo) (reason : WaitReason) (volume : Option Nat) : Prop :=
  t.admission.waitReason = reason ∧ t.admission.lastNeeded = volume ∧
    t.admission.candidate = some f ∧ t.admission.spacing = none ∧
    t.slotA.filter = s.slotA.filter ∧ t.slotB.filter = s.slotB.filter

theorem State.WaitsFor.evalRotation {s t : State} {f : FilterNo} {reason : WaitReason} {volume : Option Nat}
    (h : s.WaitsFor t f reason volume) : s.WaitsFor t.evalRotation f reason volume := by
  obtain ⟨n, b, c, d, w, e⟩ := State.evalRotation_shape t
  rw [e]
  exact h

theorem State.WaitsFor.entered {s t u : State} {f : FilterNo} {reason : WaitReason} {volume : Option Nat}
    (h : s.WaitsFor t f reason volume) (k : NoticesEntered t u) : s.WaitsFor u f reason volume := by
  obtain ⟨ps, r, y, z, o, n, shape⟩ := k.shape
  obtain ⟨oa, va, slotA⟩ := k.slot .a
  obtain ⟨ob, vb, slotB⟩ := k.slot .b
  have admission : u.admission = t.admission := by rw [shape]
  have filterA : u.slotA.filter = t.slotA.filter := (congrArg Slot.filter slotA :)
  have filterB : u.slotB.filter = t.slotB.filter := (congrArg Slot.filter slotB :)
  unfold State.WaitsFor
  rw [admission, filterA, filterB]
  exact h

theorem State.offerAll_state (f : FilterNo) (s : State) :
    ((s.offerAll).filter f).state = (s.filter f).state := by
  obtain ⟨b, h⟩ := (noticesEntered_offerAll s).filter f
  rw [h]

/-- The state with the spacing timer stopped, in which its expiry examines the candidate (R50). -/
def State.spacingStopped (s : State) : State :=
  { s with admission := { s.admission with spacing := none } }

/-- The spacing timer's expiry stops it and examines the candidate that stands (R46, R50). -/
theorem State.spacingExpiry_of_current {s : State} (current : s.CandidateCurrent)
    (running : s.admission.spacing.isSome = true) :
    s.spacingExpiry = (s.spacingStopped.examine 3).evalRotation := by
  have same : s.spacingStopped.choose = (false, s.spacingStopped) := State.choose_of_current current.1
  rw [State.spacingExpiry, if_pos running]
  show s.spacingStopped.reconsider = _
  rw [State.reconsider, same]

section
variable {s : State} {f : FilterNo} (current : s.CandidateCurrent)
  (candidate : s.admission.candidate = some f) (running : s.admission.spacing.isSome = true)
include current candidate running

/-- A candidate that must wait, after the spacing timer's expiry (R46, R47, R50). -/
theorem State.waitsFor_spacingExpiry {reason : WaitReason} {volume : Option Nat}
    (h : s.spacingStopped.verdict f = .waits reason volume) :
    s.WaitsFor s.spacingExpiry.offerAll f reason volume := by
  rw [State.spacingExpiry_of_current current running,
    State.examine_waits (s := s.spacingStopped) candidate h 2]
  refine (State.WaitsFor.evalRotation ?_).entered (noticesEntered_offerAll _)
  exact ⟨rfl, rfl, candidate, rfl, rfl, rfl⟩

/-- A candidate that is admitted, after the spacing timer's expiry (R46, R50, R57). -/
theorem State.wash_spacingExpiry {needed : Nat} (h : s.spacingStopped.verdict f = .fits needed) :
    (s.spacingExpiry.offerAll.filter f).state = .wash := by
  have first : s.spacingStopped.firstEligible = some f :=
    current.1.symm.trans (current.2.symm.trans candidate)
  rw [State.offerAll_state, State.spacingExpiry_of_current current running]
  obtain ⟨n, b, c, d, w, e⟩ := State.evalRotation_shape (s.spacingStopped.examine 3)
  rw [e]
  exact State.examine_fits (s := s.spacingStopped) candidate first h 2

end

theorem exec_spacingTimerExpiry (s : State) (outside : s.inReset = false) :
    exec .spacingTimerExpiry s = .next s.spacingExpiry.offerAll :=
  State.whenRunning_of_running (fun t => t.spacingExpiry.offerAll) s outside

/-- Settles O31, by the first condition that fails in the state with the timer stopped. -/
theorem examinationFindsTheFirstFailure : Obligations.ExaminationFindsTheFirstFailure := by
  intro s f outside current candidate running u needed tank basin ready
  have waits := @State.waitsFor_spacingExpiry s f current candidate running
  have admitted := @State.wash_spacingExpiry s f current candidate running
  have run := exec_spacingTimerExpiry s outside
  have readiness : u.monitorReady = true ↔ ready := u.monitorReady_iff
  generalize s.spacingExpiry.offerAll = t at run waits admitted
  refine ⟨t, run, fun full => ?_, fun slot => ⟨fun most => ?_, fun concurrency => ⟨fun paused => ?_,
    fun going => ⟨fun unready => ?_, fun isReady => ⟨fun short => ?_, fun fits short => ?_,
    fun fits fits' => ?_⟩⟩⟩⟩⟩
  · exact waits (State.verdict_slot f full)
  · exact waits (State.verdict_concurrency f slot most)
  · exact waits (State.verdict_paused f slot concurrency paused)
  · exact waits (State.verdict_monitor f slot concurrency going rfl
      (Bool.eq_false_iff.2 fun k => unready (readiness.1 k)))
  · exact waits (State.verdict_tank f slot concurrency going rfl (readiness.2 isReady) short)
  · exact waits (State.verdict_basin f slot concurrency going rfl (readiness.2 isReady) fits short)
  · exact admitted (State.verdict_fits f slot concurrency going rfl (readiness.2 isReady) fits fits')

end Sys2Proof.Machine

/-! PROOFS. A sample that completes no window: the entry into signal fault, the exit, and the window; O42. -/

namespace Sys2Proof.Machine

/-! ### A fault handed on (R125) -/

/-- At least one channel has fault set (R125). -/
def Monitor.anyFault (m : Monitor) : Bool := m.tank.fault || m.flow.fault || m.basin.fault

/-- The arbiter's item of a channel's fault; the basin has none (R92, R125). -/
def Arbiter.setFault (c : Channel) (value : Bool) (a : Arbiter) : Arbiter :=
  match c with
  | .tank => { a with tankFault := value }
  | .flow => { a with flowFault := value }
  | .basin => a

theorem State.evalSignalFault_shape (s : State) :
    ∃ u, s.evalSignalFault =
      { s with monitor := { s.monitor with signalFault := s.monitor.anyFault }, status := u } :=
  State.handLive_shape _ _ _ _

/-- A channel's fault at the arbiter is set or cleared, and nothing follows but grants and, at a water holder,
the end of its supervision (R92, R106). -/
theorem State.faultAtArbiter_steady (c : Channel) (value : Bool) (s : State) :
    State.Steady { s with arbiter := s.arbiter.setFault c value } (s.faultAtArbiter c value) := by
  cases c with
  | basin => exact .refl s
  | tank =>
    show State.Steady _ (s.tankFaultAtArbiter value)
    unfold State.tankFaultAtArbiter
    extract_lets a t
    split
    · exact .refl t
    · exact t.grantPass_steady
  | flow =>
    show State.Steady _ (s.flowFaultAtArbiter value)
    unfold State.flowFaultAtArbiter
    extract_lets a t
    split
    · split
      · exact State.setSlot_steady _ _ t
      · exact .refl t
    · exact t.grantPass_steady

@[simp] theorem AdmissionUnit.view_setView (c : Channel) (v : ChannelView) (u : AdmissionUnit) :
    (u.setView c v).view c = v := by cases c <;> rfl

/-- A channel's entry into signal fault, or its exit, has been handed on: SIGNAL_FAULT is taken anew, and the
arbiter and the Admission Unit have the channel's fault; the pages and the channels are as they were (R51, R92,
R125). -/
structure State.FaultHanded (c : Channel) (value : Bool) (s t : State) : Prop where
  store : t.store = s.store
  channels : ∀ d, t.monitor.channel d = s.monitor.channel d
  signal : t.monitor.signalFault = s.monitor.anyFault
  view : t.admission.view c = ⟨value, if value then false else (s.admission.view c).fresh⟩
  bars : t.arbiter.bars = (s.arbiter.setFault c value).bars

theorem State.handFault_handed (c : Channel) (value : Bool) (s : State) :
    s.FaultHanded c value (s.handFault c value) := by
  obtain ⟨u, e⟩ := s.evalSignalFault_shape
  unfold State.handFault
  rw [e]
  generalize he : ({ s with monitor := _, status := u } : State) = s1
  have barred := State.faultAtArbiter_steady c value s1
  generalize s1.faultAtArbiter c value = s2 at barred
  have examined := State.reconsider_steady
    { s2 with
      admission := s2.admission.setView c ⟨value, if value then false else (s2.admission.view c).fresh⟩ }
  have seen : s2.admission.view c = s.admission.view c := (barred.view c).trans (by rw [← he])
  subst he
  constructor
  case store => exact examined.store.trans barred.store
  case channels =>
    intro d
    refine (examined.channel d).trans ((barred.channel d).trans ?_)
    cases d <;> rfl
  case signal =>
    exact (congrArg Monitor.signalFault examined.measured :).trans
      (congrArg Monitor.signalFault barred.measured :)
  case view => exact (examined.view c).trans (by rw [AdmissionUnit.view_setView, seen])
  case bars => exact examined.bars.trans barred.bars

/-! ### The holder at the entry into signal fault (R106) -/

theorem State.verdict_unready {s : State} (f : FilterNo) (h : s.admission.monitorReady = false) :
    ∃ reason volume, s.verdict f = .waits reason volume := by
  unfold State.verdict
  extract_lets u needed
  have unready : u.monitorReady = false := h
  split_ifs <;> exact ⟨_, _, rfl⟩

/-- No wash is admitted while the monitor is not ready, so the slots stay as they are (R47, R51). -/
theorem State.reconsider_slot_unready {s : State} (h : s.admission.monitorReady = false) (i : SlotId) :
    s.reconsider.slot i = s.slot i := by
  obtain ⟨k, u, chosen⟩ := s.choose_shape
  have told := s.choose_steady.told
  have unready : s.choose.2.admission.monitorReady = false := by
    rw [← h]
    simp only [AdmissionUnit.told, Prod.mk.injEq] at told
    simp only [AdmissionUnit.monitorReady, told]
  have examined : ∃ v, s.choose.2.examine 3 = { s.choose.2 with admission := v } := by
    cases candidate : s.choose.2.admission.candidate with
    | none => exact ⟨s.choose.2.admission, by simp only [State.examine, candidate]⟩
    | some f =>
      obtain ⟨reason, volume, waits⟩ := State.verdict_unready f unready
      exact ⟨_, State.examine_waits candidate waits 2⟩
  obtain ⟨v, examined⟩ := examined
  obtain ⟨n, b, c, d, w, evaluated⟩ := State.evalRotation_shape (s.choose.2.examine 3)
  rw [State.reconsider, evaluated, examined, chosen]
  cases i <;> rfl

/-- At the entry of FLOW into signal fault the water holder's supervision is suspended, and its wash is marked
(R106). -/
theorem State.handFault_unsupervised {s : State} {i : SlotId} (h : s.arbiter.waterHolder = some i) :
    ((s.handFault .flow true).slot i).flowUnsupervised = true ∧
      ((s.handFault .flow true).slot i).shortfall = none := by
  obtain ⟨u, e⟩ := s.evalSignalFault_shape
  unfold State.handFault
  rw [e]
  generalize he : ({ s with monitor := _, status := u } : State) = s1
  have holder : s1.arbiter.waterHolder = some i := by rw [← he]; exact h
  let t : State := { s1 with arbiter := { s1.arbiter with flowFault := true } }
  have suspended : s1.faultAtArbiter .flow true =
      t.setSlot i { t.slot i with shortfall := none, flowUnsupervised := true } := by
    show s1.flowFaultAtArbiter true = _
    unfold State.flowFaultAtArbiter
    extract_lets a t'
    rw [if_pos rfl]
    split
    · next j hj =>
      obtain rfl : i = j := Option.some.inj (holder.symm.trans hj)
      rfl
    · next hn => exact absurd (holder.symm.trans hn) nofun
  have marked : (s1.faultAtArbiter .flow true).slot i =
      { t.slot i with shortfall := none, flowUnsupervised := true } := by
    rw [suspended, State.slot_setSlot_self]
  generalize s1.faultAtArbiter .flow true = s2 at marked
  have unready : (s2.admission.setView .flow ⟨true, false⟩).monitorReady = false := by
    simp [AdmissionUnit.monitorReady, AdmissionUnit.setView]
  have kept := State.reconsider_slot_unready
    (s := { s2 with admission := s2.admission.setView .flow ⟨true, false⟩ }) unready i
  have slot : State.slot { s2 with admission := s2.admission.setView .flow ⟨true, false⟩ } i = s2.slot i := by
    cases i <;> rfl
  rw [slot, marked] at kept
  have taken : (s2.faultAtAdmission .flow true).slot i = _ := kept
  rw [taken]
  exact ⟨rfl, rfl⟩

/-! ### A good sample (R120, R122) -/

/-- A channel record with a good reading scaled (R120). -/
def ChannelRec.scaled (g : ChannelCfg) (reading : BitVec 12) (r : ChannelRec) : ChannelRec :=
  { r with
    lastScaled := some (min 9999 (scaleReading g reading))
    lastClamped := decide (9999 < scaleReading g reading) }

/-- A channel record with a value in its window that does not complete it (R122). -/
def ChannelRec.windowed (v : Nat) (r : ChannelRec) : ChannelRec :=
  { r with windowCount := r.windowCount + 1, windowSum := r.windowSum + v }

/-- A channel's record goes over to `r`; no fault, nothing at the arbiter or the Admission Unit, and no page
changes. -/
structure State.Measured (c : Channel) (r : ChannelRec) (s t : State) : Prop where
  channel : t.monitor.channel c = r
  faults : t.monitor.anyFault = s.monitor.anyFault
  signal : t.monitor.signalFault = s.monitor.signalFault
  store : t.store = s.store
  arbiter : t.arbiter = s.arbiter
  admission : t.admission = s.admission

theorem State.setChannel_measured (c : Channel) (r : ChannelRec) (s : State)
    (fault : r.fault = (s.monitor.channel c).fault) : s.Measured c r (s.setChannel c r) where
  channel := Monitor.channel_setChannel_self _ _ _
  faults := by
    cases c <;>
      simp only [State.setChannel_monitor, Monitor.setChannel, Monitor.anyFault, fault, Monitor.channel]
  signal := by cases c <;> rfl
  store := rfl
  arbiter := rfl
  admission := rfl

/-- The credit of a sample and the totalizer reach no channel (R128, R129). -/
theorem State.Measured.creditFlow {c : Channel} {r : ChannelRec} {s t : State} (h : s.Measured c r t) (v : Nat) :
    s.Measured c r (t.creditFlow v) := by
  unfold State.creditFlow
  extract_lets m u
  have credited : s.Measured c r u := by
    unfold u
    split
    · exact ⟨by simpa using h.channel, by simpa using h.faults, by simpa using h.signal,
        by simpa using h.store, by simpa using h.arbiter, by simpa using h.admission⟩
    · exact ⟨by rw [← h.channel]; cases c <;> rfl, h.faults, h.signal, h.store, h.arbiter, h.admission⟩
  exact ⟨by rw [← credited.channel]; cases c <;> rfl, credited.faults, credited.signal, credited.store,
    credited.arbiter, credited.admission⟩

theorem State.scaleAndCredit_measured (c : Channel) (reading : BitVec 12) (s : State) :
    s.Measured c ((s.monitor.channel c).scaled (s.plant.channelCfg c) reading)
      (s.scaleAndCredit c reading) := by
  have scaled := State.setChannel_measured c
    ((s.monitor.channel c).scaled (s.plant.channelCfg c) reading) s rfl
  unfold State.scaleAndCredit
  extract_lets v r t
  split
  · exact scaled.creditFlow _
  · exact scaled

/-- A window that the sample does not complete takes its value (R122). -/
theorem State.intoWindow_measured {c : Channel} {s : State} (reading : BitVec 12)
    (open_ : (s.monitor.channel c).windowCount + 1 < 2 ^ (s.plant.channelCfg c).exponent) :
    s.Measured c
      ((s.monitor.channel c).windowed (min 9999 (scaleReading (s.plant.channelCfg c) reading)))
      (s.intoWindow c reading) := by
  unfold State.intoWindow State.addToWindow
  extract_lets r length
  rw [if_pos open_]
  exact State.setChannel_measured c _ s rfl

/-! ### The exit from signal fault (R121) -/

/-- A channel's exit from signal fault has been handed on, and its record is `r` (R51, R92, R125). -/
structure State.FaultLeft (c : Channel) (r : ChannelRec) (s t : State) : Prop where
  channel : t.monitor.channel c = r
  store : t.store = s.store
  signal : t.monitor.signalFault = t.monitor.anyFault
  view : (t.admission.view c).fault = false
  tank : c = .tank → t.arbiter.tankFault = false
  flow : c = .flow → t.arbiter.flowFault = false

/-- The exit is handed on after a part of the sample that reached no fault. -/
theorem State.FaultLeft.of_handed {c : Channel} {r : ChannelRec} {s t u : State} (h : s.Measured c r t)
    (k : t.FaultHanded c false u) : s.FaultLeft c r u where
  channel := (k.channels c).trans h.channel
  store := k.store.trans h.store
  signal := by
    have tank : u.monitor.tank = _ := k.channels .tank
    have flow : u.monitor.flow = _ := k.channels .flow
    have basin : u.monitor.basin = _ := k.channels .basin
    rw [k.signal, Monitor.anyFault, Monitor.anyFault, tank, flow, basin]
    rfl
  view := by rw [k.view]
  tank e := by
    subst e
    exact (congrArg (·.2.2.1) k.bars :)
  flow e := by
    subst e
    exact (congrArg (·.2.2.2) k.bars :)

/-- A part of the sample that comes after the exit leaves it handed on. -/
theorem State.FaultLeft.measured {c : Channel} {r q : ChannelRec} {s t u : State} (h : s.FaultLeft c r t)
    (k : t.Measured c q u) : s.FaultLeft c q u where
  channel := k.channel
  store := k.store.trans h.store
  signal := by rw [k.signal, h.signal, k.faults]
  view := by rw [k.admission]; exact h.view
  tank e := by rw [k.arbiter]; exact h.tank e
  flow e := by rw [k.arbiter]; exact h.flow e

section
variable {c : Channel} {s : State} (reading : BitVec 12)
  (open_ : (s.monitor.channel c).windowCount + 1 < 2 ^ (s.plant.channelCfg c).exponent)
include open_

/-- A good sample of a channel, scaled and in the window (R120, R122). -/
theorem State.goodSample_measured :
    s.Measured c (((s.monitor.channel c).scaled (s.plant.channelCfg c) reading).windowed
      (min 9999 (scaleReading (s.plant.channelCfg c) reading))) (s.goodSample c reading) := by
  have scaled := State.scaleAndCredit_measured c reading s
  have plant : (s.scaleAndCredit c reading).plant = s.plant := congrArg PageStore.inForce scaled.store
  have taken := State.intoWindow_measured (c := c) (s := s.scaleAndCredit c reading) reading
    (by rw [plant, scaled.channel]; exact open_)
  rw [plant, scaled.channel] at taken
  exact ⟨taken.channel, taken.faults.trans scaled.faults, taken.signal.trans scaled.signal,
    taken.store.trans scaled.store, taken.arbiter.trans scaled.arbiter, taken.admission.trans scaled.admission⟩

/-- With the exit handed on first, the sample is then treated as any good one (R121). -/
theorem State.goodSample_handed :
    s.FaultLeft c (((s.monitor.channel c).scaled (s.plant.channelCfg c) reading).windowed
      (min 9999 (scaleReading (s.plant.channelCfg c) reading)))
      ((s.handFault c false).goodSample c reading) := by
  have handed := s.handFault_handed c false
  have plant : (s.handFault c false).plant = s.plant := congrArg PageStore.inForce handed.store
  have start : s.Measured c (s.monitor.channel c) s := ⟨rfl, rfl, rfl, rfl, rfl, rfl⟩
  have taken := State.goodSample_measured (c := c) (s := s.handFault c false) reading
    (by rw [plant, handed.channels]; exact open_)
  rw [plant, handed.channels] at taken
  exact (State.FaultLeft.of_handed start handed).measured taken

/-- With a FLOW sample credited before its exit is handed on, it then enters the window (R121, log 34). -/
theorem State.handFault_credited :
    s.FaultLeft c (((s.monitor.channel c).scaled (s.plant.channelCfg c) reading).windowed
      (min 9999 (scaleReading (s.plant.channelCfg c) reading)))
      (((s.scaleAndCredit c reading).handFault c false).intoWindow c reading) := by
  have left := State.FaultLeft.of_handed (State.scaleAndCredit_measured c reading s)
    (State.handFault_handed c false _)
  generalize (s.scaleAndCredit c reading).handFault c false = t at left
  have plant : t.plant = s.plant := congrArg PageStore.inForce left.store
  have taken := State.intoWindow_measured (c := c) (s := t) reading
    (by rw [plant, left.channel]; exact open_)
  rw [plant, left.channel] at taken
  exact left.measured taken

end

/-- The first good sample in signal fault ends it, in either order, and enters the window (R121, logs 34 and
35). -/
theorem State.endFault_left {c : Channel} {s : State} (reading : BitVec 12)
    (open_ : (s.monitor.channel c).windowCount + 1 < 2 ^ (s.plant.channelCfg c).exponent) :
    s.FaultLeft c ((ChannelRec.scaled (s.plant.channelCfg c) reading
      { s.monitor.channel c with fault := false }).windowed
      (min 9999 (scaleReading (s.plant.channelCfg c) reading))) (s.endFault c reading) := by
  let t : State := (s.setChannel c { s.monitor.channel c with fault := false }).chosen
  have record : t.monitor.channel c = { s.monitor.channel c with fault := false } :=
    Monitor.channel_setChannel_self _ _ _
  have open' : (t.monitor.channel c).windowCount + 1 < 2 ^ (t.plant.channelCfg c).exponent := by
    rw [record]
    exact open_
  have left : t.FaultLeft c ((ChannelRec.scaled (t.plant.channelCfg c) reading
      (t.monitor.channel c)).windowed
      (min 9999 (scaleReading (t.plant.channelCfg c) reading))) (s.endFault c reading) := by
    have handedFirst := State.goodSample_handed reading open'
    have handedLast := State.FaultLeft.of_handed (State.goodSample_measured reading open')
      (State.handFault_handed c false _)
    have creditedFirst := State.handFault_credited reading open'
    unfold State.endFault
    extract_lets r u
    split
    · obtain h | h := eitherOrder_cases (State.handFault .flow false) (State.scaleAndCredit .flow reading) u
      · rw [h]
        exact handedFirst
      · rw [h]
        exact creditedFirst
    all_goals
      obtain h | h := eitherOrder_cases (State.handFault _ false) (State.goodSample _ reading) u
      · rw [h]
        exact handedFirst
      · rw [h]
        exact handedLast
  rw [record] at left
  exact ⟨left.channel, left.store, left.signal, left.view, left.tank, left.flow⟩

/-! ### The three kinds of sample -/

/-- A channel that has taken a converter reading, good or not (R120). -/
def State.withRaw (c : Channel) (reading : BitVec 12) (s : State) : State :=
  s.setChannel c { s.monitor.channel c with lastRaw := some reading }

@[simp] theorem State.withRaw_channel (c : Channel) (reading : BitVec 12) (s : State) :
    (s.withRaw c reading).monitor.channel c = { s.monitor.channel c with lastRaw := some reading } :=
  Monitor.channel_setChannel_self _ _ _

theorem State.sample_bad (c : Channel) {reading : BitVec 12} (s : State) (bad : goodReading reading = false) :
    s.sample c reading = (s.withRaw c reading).faultSample c := by
  unfold State.sample
  extract_lets r t
  rw [if_neg (Bool.eq_false_iff.1 bad)]
  rfl

theorem State.sample_good {c : Channel} {reading : BitVec 12} {s : State} (good : goodReading reading = true)
    (fault : (s.monitor.channel c).fault = false) :
    s.sample c reading = (s.withRaw c reading).goodSample c reading := by
  have unfaulted : ((s.withRaw c reading).monitor.channel c).fault = false := by
    rw [State.withRaw_channel]
    exact fault
  unfold State.sample
  extract_lets r t
  rw [if_pos good]
  exact if_neg (Bool.eq_false_iff.1 unfaulted)

theorem State.sample_good_fault {c : Channel} {reading : BitVec 12} {s : State}
    (good : goodReading reading = true) (fault : (s.monitor.channel c).fault = true) :
    s.sample c reading = (s.withRaw c reading).endFault c reading := by
  have faulted : ((s.withRaw c reading).monitor.channel c).fault = true := by
    rw [State.withRaw_channel]
    exact fault
  unfold State.sample
  extract_lets r t
  rw [if_pos good]
  exact if_pos faulted

/-- The record of a channel that enters signal fault (R121). -/
def ChannelRec.faulted (r : ChannelRec) : ChannelRec :=
  { r with fault := true, faultEntries := r.faultEntries + 1, windowCount := 0, windowSum := 0 }

theorem State.faultSample_again {c : Channel} {s : State} (h : (s.monitor.channel c).fault = true) :
    s.faultSample c = s := if_pos h

theorem State.faultSample_entry {c : Channel} {s : State} (h : (s.monitor.channel c).fault = false) :
    s.faultSample c = (s.setChannel c (s.monitor.channel c).faulted).handFault c true :=
  if_neg (Bool.eq_false_iff.1 h)

theorem exec_channelSample (c : Channel) (reading : BitVec 12) (s : State) (outside : s.inReset = false) :
    exec (.channelSample c reading) s = .next (s.sample c reading).offerAll :=
  State.whenRunning_of_running (fun t => (t.sample c reading).offerAll) s outside

/-- Entered notices leave the blocks of the supply and the admission as they are. -/
theorem NoticesEntered.supply {s t : State} (h : NoticesEntered s t) :
    t.monitor = s.monitor ∧ t.arbiter = s.arbiter ∧ t.admission = s.admission := by
  obtain ⟨ps, r, y, z, o, n, rfl⟩ := h.shape
  exact ⟨rfl, rfl, rfl⟩

/-- One channel in fault is enough. -/
theorem Monitor.anyFault_of_channel {m : Monitor} (c : Channel) (h : (m.channel c).fault = true) :
    m.anyFault = true := by
  have h' : ∀ a b d : Bool, a = true ∨ b = true ∨ d = true → (a || b || d) = true := by decide
  refine h' _ _ _ ?_
  cases c
  · exact .inl h
  · exact .inr (.inl h)
  · exact .inr (.inr h)

/-- Settles O42, by the reading and the fault that the channel has: a fault goes on, begins or ends, or there
is none. -/
theorem sampleIsTaken : Obligations.SampleIsTaken := by
  intro s c reading outside r g v
  have run := exec_channelSample c reading s outside
  have entered := noticesEntered_offerAll (s.sample c reading)
  obtain ⟨monitor, arbiter, admission⟩ := entered.supply
  have slot := entered.slot
  generalize (s.sample c reading).offerAll = t at run entered monitor arbiter admission slot
  have raw := s.withRaw_channel c reading
  refine ⟨fun bad fault => ⟨t, run, ?_⟩, fun bad fault => ⟨t, run, ?_⟩, fun good open_ => ⟨t, run, ?_⟩⟩
  · rwa [State.sample_bad c s bad, State.faultSample_again (by rw [raw]; exact fault)] at entered
  · rw [State.sample_bad c s bad, State.faultSample_entry (by rw [raw]; exact fault), raw]
      at monitor arbiter admission slot
    have handed := State.handFault_handed c true ((s.withRaw c reading).setChannel c
      (ChannelRec.faulted { s.monitor.channel c with lastRaw := some reading }))
    have record := (handed.channels c).trans (Monitor.channel_setChannel_self _ c _)
    rw [monitor, arbiter, admission]
    refine ⟨record, handed.signal.trans (Monitor.anyFault_of_channel c ?_), handed.view, ?_, ?_⟩
    · rw [← handed.channels c, record]
      rfl
    · rintro rfl
      exact (congrArg (·.2.2.1) handed.bars :)
    · rintro rfl
      refine ⟨(congrArg (·.2.2.2) handed.bars :), fun i holder => ?_⟩
      obtain ⟨o, w, e⟩ := slot i
      rw [e]
      exact State.handFault_unsupervised holder
  · have open' : ((s.withRaw c reading).monitor.channel c).windowCount + 1 <
        2 ^ ((s.withRaw c reading).plant.channelCfg c).exponent := by
      rw [raw]
      exact open_
    rw [monitor, arbiter, admission]
    cases fault : r.fault with
    | false =>
      rw [State.sample_good good fault]
      have taken := State.goodSample_measured reading open'
      rw [raw] at taken
      refine ⟨taken.channel.trans ?_, nofun⟩
      rw [← fault]
      rfl
    | true =>
      rw [State.sample_good_fault good fault]
      have left := State.endFault_left reading open'
      rw [raw] at left
      exact ⟨left.channel, fun _ => ⟨left.signal, left.view, left.tank, left.flow⟩⟩

end Sys2Proof.Machine

/-! PROOFS. The frame of the commands: what a command may change, and the parts it is made of. -/

namespace Sys2Proof

/-- The commands within which the Supply Monitor measures, or takes new levels (R120, R130). -/
def Instr.Measures (c : Instr) : Prop := c.isSample = true ∨ c = .commitCompletion

theorem Instr.Measures.canEndWash {c : Instr} (h : c.Measures) : c.canEndWash = true := by
  obtain h | rfl := h
  · cases c with
    | channelSample => rfl
    | windowCompletion => rfl
    | _ => cases h
  · rfl

theorem Instr.Measures.elim {c : Instr} (h : c.Measures) {P : Prop} (sample : c.isSample = false)
    (commit : c ≠ .commitCompletion) : P := by
  obtain k | k := h
  · rw [sample] at k
    cases k
  · exact absurd k commit

end Sys2Proof

namespace Sys2Proof.Machine

/-! ### What a command may change -/

/-- A port goes over to one with nothing new but frames at the end of its outbound queue. -/
structure PortRec.Quiet (r q : PortRec) : Prop where
  attachment : (q.role, q.bounds, q.silenceLimit, q.silenceTimer) =
    (r.role, r.bounds, r.silenceLimit, r.silenceTimer)
  line : (q.receiver, q.inbound, q.errorCount, q.dropCount) =
    (r.receiver, r.inbound, r.errorCount, r.dropCount)
  outbound : r.outbound <+: q.outbound

theorem PortRec.Quiet.refl (r : PortRec) : r.Quiet r := ⟨rfl, rfl, List.prefix_rfl⟩

theorem PortRec.Quiet.trans {r q u : PortRec} (h : r.Quiet q) (k : q.Quiet u) : r.Quiet u :=
  ⟨k.attachment.trans h.attachment, k.line.trans h.line, h.outbound.trans k.outbound⟩

/-- A filter record goes over to one in which the command `c` has changed nothing that the frame names for other
commands alone. -/
structure FilterRec.KeptBy (c : Instr) (r q : FilterRec) : Prop where
  settings : c ≠ .commitCompletion → q.settings = r.settings
  history : c.canEndWash = false → q.history = r.history
  measures : c.canEndWash = false → (∀ p, c ≠ .report p) → q.measures = r.measures

theorem FilterRec.Steady.keptBy {r q : FilterRec} (h : r.Steady q) (c : Instr) : r.KeptBy c q :=
  ⟨fun _ => h.settings, fun _ => h.history, fun _ _ => h.measures⟩

theorem FilterRec.KeptBy.trans {c : Instr} {r q u : FilterRec} (h : r.KeptBy c q) (k : q.KeptBy c u) :
    r.KeptBy c u where
  settings a := (k.settings a).trans (h.settings a)
  history a := (k.history a).trans (h.history a)
  measures a b := (k.measures a b).trans (h.measures a b)

/-- What the Supply Monitor concludes, and what it has told its neighbours of it (R92, R123 to R125). -/
def State.conditions (s : State) :=
  (s.monitor.tankLow, s.monitor.basinFull, s.monitor.signalFault, s.monitor.refill, s.monitor.primed,
    s.arbiter.bars, s.admission.tankLevel, s.admission.basinLevel)

/-- A move that the command `c` may make, outside a reset: nothing has changed that the frame of the commands
names for other commands alone. -/
structure State.KeptBy (c : Instr) (s t : State) : Prop where
  held : (t.pending, t.inReset, t.lineRate) = (s.pending, s.inReset, s.lineRate)
  clock : (∀ p, c ≠ .clockSet p) → c ≠ .minuteEvent → t.clock = s.clock
  seconds : c ≠ .minuteEvent → t.seconds = s.seconds
  rawClass : (∀ p, c ≠ .setClass p) → t.filters.rawClass = s.filters.rawClass
  paused : (∀ p, c ≠ .setPause p) → t.admission.paused = s.admission.paused
  edit : c.canEdit = false → t.store.latch = s.store.latch ∧ t.store.staging = s.store.staging
  pages : c ≠ .commitCompletion → (∀ p, c ≠ .commit p) → t.store.programmes = s.store.programmes ∧
    t.store.plant = s.store.plant ∧ t.store.commit = s.store.commit
  inForce : c ≠ .commitCompletion → t.plant = s.plant ∧ t.store.pageInvalid = s.store.pageInvalid ∧
    t.queue.floor = s.queue.floor
  filters : ∀ f, (s.filter f).KeptBy c (t.filter f)
  journal : c.canEndWash = false → t.journal = s.journal
  channels : c.isSample = false → c ≠ .commitCompletion → (∀ p, c ≠ .peakReset p) → ∀ d,
    t.monitor.channel d = s.monitor.channel d
  conditions : c.isSample = false → c ≠ .commitCompletion → t.conditions = s.conditions
  ports : ∀ p, c.portOf ≠ some p → (s.port p).Quiet (t.port p)
  latched : (∀ p, c ≠ .clearStatus p) → FlagSet.Within s.status.latched t.status.latched

theorem State.KeptBy.refl (c : Instr) (s : State) : s.KeptBy c s where
  held := rfl
  clock _ _ := rfl
  seconds _ := rfl
  rawClass _ := rfl
  paused _ := rfl
  edit _ := ⟨rfl, rfl⟩
  pages _ _ := ⟨rfl, rfl, rfl⟩
  inForce _ := ⟨rfl, rfl, rfl⟩
  filters _ := (FilterRec.Steady.refl _).keptBy c
  journal _ := rfl
  channels _ _ _ _ := rfl
  conditions _ _ := rfl
  ports _ _ := .refl _
  latched _ := .refl _

theorem State.KeptBy.trans {c : Instr} {s t u : State} (h : s.KeptBy c t) (k : t.KeptBy c u) :
    s.KeptBy c u where
  held := k.held.trans h.held
  clock a b := (k.clock a b).trans (h.clock a b)
  seconds a := (k.seconds a).trans (h.seconds a)
  rawClass a := (k.rawClass a).trans (h.rawClass a)
  paused a := (k.paused a).trans (h.paused a)
  edit a := ⟨(k.edit a).1.trans (h.edit a).1, (k.edit a).2.trans (h.edit a).2⟩
  pages a b :=
    have ⟨programmes, plant, commit⟩ := h.pages a b
    have ⟨programmes', plant', commit'⟩ := k.pages a b
    ⟨programmes'.trans programmes, plant'.trans plant, commit'.trans commit⟩
  inForce a :=
    have ⟨plant, invalid, floor⟩ := h.inForce a
    have ⟨plant', invalid', floor'⟩ := k.inForce a
    ⟨plant'.trans plant, invalid'.trans invalid, floor'.trans floor⟩
  filters f := (h.filters f).trans (k.filters f)
  journal a := (k.journal a).trans (h.journal a)
  channels a b e d := (k.channels a b e d).trans (h.channels a b e d)
  conditions a b := (k.conditions a b).trans (h.conditions a b)
  ports p a := (h.ports p a).trans (k.ports p a)
  latched a x := k.latched a x ∘ h.latched a x

/-- What a rotation, a grant or a step of a wash changes, any command may change. -/
theorem State.Steady.keptBy {s t : State} (h : s.Steady t) (c : Instr) : s.KeptBy c t where
  held := (congrArg (fun x => (x.1.1, x.1.2.1, x.1.2.2.1)) h.parts :)
  clock _ _ := (congrArg (·.1.2.2.2.1) h.parts :)
  seconds _ := (congrArg (·.1.2.2.2.2) h.parts :)
  rawClass _ := h.rawClass
  paused _ := (congrArg (·.1) h.told :)
  edit _ := by simp [h.store]
  pages _ _ := by simp [h.store]
  inForce _ := ⟨h.plant, by simp [h.store], h.floor⟩
  filters f := (h.filters f).keptBy c
  journal _ := h.journal
  channels _ _ _ := h.channel
  conditions _ _ := by
    have told := h.told
    have measured := h.measured
    simp only [AdmissionUnit.told, Prod.mk.injEq] at told
    simp only [Monitor.measured, Monitor.mk.injEq] at measured
    simp only [State.conditions, h.bars, told, measured]
  ports p _ := by
    rw [State.port_congr h.ports p]
    exact .refl _
  latched _ := h.latched

section
variable {c : Instr}

theorem State.KeptBy.foldl {α : Type} (f : State → α → State) (l : List α) (s : State)
    (h : ∀ (t : State) (a : α), t.KeptBy c (f t a)) : s.KeptBy c (l.foldl f s) := by
  induction l generalizing s with
  | nil => exact .refl c s
  | cons a l ih => exact (h s a).trans (ih _)

theorem State.KeptBy.eitherOrder {f g : State → State} (s : State) (hf : ∀ t : State, t.KeptBy c (f t))
    (hg : ∀ t : State, t.KeptBy c (g t)) : s.KeptBy c (Machine.eitherOrder f g s) := by
  have chosen := s.chosen_steady.keptBy c
  obtain h | h := eitherOrder_cases f g s
  · rw [h]
    exact (chosen.trans (hf _)).trans (hg _)
  · rw [h]
    exact (chosen.trans (hg _)).trans (hf _)

/-! ### The ports and the notices -/

theorem NoticesEntered.quiet {s t : State} (h : NoticesEntered s t) (p : Port) :
    (s.port p).Quiet (t.port p) := by
  obtain ⟨frames, e⟩ := h.port p
  rw [e]
  exact ⟨rfl, rfl, List.prefix_append _ _⟩

theorem NoticesEntered.rawClass {s t : State} (h : NoticesEntered s t) :
    t.filters.rawClass = s.filters.rawClass := by
  induction h with
  | nothing => rfl
  | chose u _ ih => exact ih
  | entered u n _ ih =>
    obtain e | ⟨p, fr, -, -, e⟩ := State.enterNotice_cases n u
    · rw [e, ih]
    · rw [e, ← ih]
      cases n with
      | slot i =>
        exact congrArg FilterTable.rawClass
          ((State.setSlot_filters _ _ _).trans (State.sendFrame_filters u p fr))
      | washEnd f => exact (congrArg FilterTable.rawClass (State.sendFrame_filters u p fr) :)
      | commitDone => exact (congrArg FilterTable.rawClass (State.sendFrame_filters u p fr) :)

/-- Any command may have owed notices enter (R158). -/
theorem NoticesEntered.keptBy {s t : State} (h : NoticesEntered s t) (c : Instr) : s.KeptBy c t := by
  have filters : ∀ f, (s.filter f).KeptBy c (t.filter f) := fun f => by
    obtain ⟨b, e⟩ := h.filter f
    rw [e]
    exact ⟨fun _ => rfl, fun _ => rfl, fun _ _ => rfl⟩
  have ports := h.quiet
  have rawClass := h.rawClass
  obtain ⟨ps, r, y, z, o, n, rfl⟩ := h.shape
  exact { State.KeptBy.refl c s with
    rawClass := fun _ => rawClass, filters := filters, ports := fun p _ => ports p }

theorem State.offerAll_keptBy (c : Instr) (s : State) : s.KeptBy c s.offerAll :=
  (noticesEntered_offerAll s).keptBy c

/-- A command may change the record of its own port. -/
theorem State.setPort_keptBy {p : Port} (h : c.portOf = some p) (r : PortRec) (s : State) :
    s.KeptBy c (s.setPort p r) := by
  have ports : ∀ q, c.portOf ≠ some q → (s.port q).Quiet ((s.setPort p r).port q) := fun q k => by
    have other : q ≠ p := by
      rintro rfl
      exact k h
    rw [State.port_setPort_other _ _ _ _ other]
    exact .refl _
  obtain ⟨ps, e⟩ := State.setPort_ports_eq s p r
  rw [e] at ports ⊢
  exact { State.KeptBy.refl c s with ports := ports }

theorem State.popInbound_keptBy {p : Port} (h : c.portOf = some p) (s : State) :
    s.KeptBy c (s.popInbound p) := State.setPort_keptBy h _ s

theorem State.answer_keptBy {p : Port} (h : c.portOf = some p) (kind tag : Byte) (reply : Reply) (s : State) :
    s.KeptBy c (s.answer p kind tag reply) := by
  rw [State.answer_eq]
  exact State.setPort_keptBy h _ s

theorem State.depart_keptBy {p : Port} (h : c.portOf = some p) (s : State) : s.KeptBy c (s.depart p) := by
  unfold State.depart
  split
  · exact .refl c s
  · exact (State.setPort_keptBy h _ s).trans
      (.foldl _ _ _ fun t q => (State.offerFreed_spec q t).1.keptBy c)

/-! ### Parts that a command may change by its kind -/

theorem State.setFilter_keptBy (f : FilterNo) (r : FilterRec) (s : State) (h : (s.filter f).KeptBy c r) :
    s.KeptBy c (s.setFilter f r) :=
  { State.KeptBy.refl c s with
    filters := fun g => by
      by_cases e : g = f
      · subst e
        rwa [State.filter_setFilter_self]
      · rw [State.filter_setFilter_other _ _ _ _ e]
        exact (FilterRec.Steady.refl _).keptBy c }

/-- A filed record may differ in its standing beside what was given. -/
theorem State.fileFilter_keptBy (f : FilterNo) (r : FilterRec) (s : State) (h : (s.filter f).KeptBy c r) :
    s.KeptBy c (s.fileFilter f r) := by
  have filed := State.setFilter_keptBy f { r with standing := r.deriveStanding s.dueThreshold } s
    ⟨h.settings, h.history, h.measures⟩
  unfold State.fileFilter
  extract_lets old new s1
  split
  · exact filed
  · exact filed.trans ((State.standingNotice_steady f s1).keptBy c)

/-- The commands that edit change the latch, the staging page and what is owed, and no stored page. -/
theorem State.edit_keptBy (h : c.canEdit = true) (s : State) {t : PageStore}
    (programmes : t.programmes = s.store.programmes) (plant : t.plant = s.store.plant)
    (commit : t.commit = s.store.commit) (invalid : t.pageInvalid = s.store.pageInvalid) :
    s.KeptBy c { s with store := t } :=
  { State.KeptBy.refl c s with
    edit := fun k => absurd (h.symm.trans k) nofun
    pages := fun _ _ => ⟨programmes, plant, commit⟩
    inForce := fun _ => ⟨by simp only [State.plant, PageStore.inForce, plant], invalid, rfl⟩ }

theorem State.journal_keptBy (h : c.canEndWash = true) (j : Journal) (s : State) :
    s.KeptBy c { s with journal := j } :=
  { State.KeptBy.refl c s with journal := fun k => absurd (h.symm.trans k) nofun }

end

theorem State.monitor_keptBy {c : Instr} (h : c.Measures) (m : Monitor) (s : State) :
    s.KeptBy c { s with monitor := m } :=
  { State.KeptBy.refl c s with
    channels := fun a b => h.elim a b
    conditions := fun a b => h.elim a b }

theorem State.arbiter_keptBy {c : Instr} (h : c.Measures) (a : Arbiter) (s : State) :
    s.KeptBy c { s with arbiter := a } :=
  { State.KeptBy.refl c s with conditions := fun a b => h.elim a b }

theorem State.admission_keptBy {c : Instr} (h : c.Measures) {u : AdmissionUnit} (s : State)
    (paused : u.paused = s.admission.paused) : s.KeptBy c { s with admission := u } :=
  { State.KeptBy.refl c s with
    paused := fun _ => paused
    conditions := fun a b => h.elim a b }

/-- A plant page commit brings settings and a floor to the filters and the queue (R11, R60). -/
theorem State.queue_keptBy (q : WashQueue) (s : State) :
    s.KeptBy .commitCompletion { s with queue := q } :=
  { State.KeptBy.refl .commitCompletion s with inForce := fun k => absurd rfl k }

end Sys2Proof.Machine

/-! PROOFS. The frame of the commands: the steps and the end of a wash, time, samples and the completion of a
commit. -/

namespace Sys2Proof.Machine

/-! ### The steps of a wash -/

theorem State.runAgain_steady (i : SlotId) (s : State) : s.Steady (s.runAgain i) :=
  (State.setSlot_steady i _ s).trans (State.redriveDemand_steady i _)

theorem State.nextStep_steady (i : SlotId) (s : State) : s.Steady (s.nextStep i) :=
  (State.leaveRun_steady i s).trans (State.setSlot_steady i _ _)

theorem State.stepReady_steady (i : SlotId) (s : State) : s.Steady (s.stepReady i) := by
  unfold State.stepReady
  extract_lets y x t
  have first : s.Steady t := State.setSlot_steady i x s
  split
  · exact first.trans (State.enterWaitSupply_steady i _ t)
  · exact first.trans (State.setSlot_steady i _ t)

theorem State.rampExpiry_steady (i : SlotId) (s : State) : s.Steady (s.rampExpiry i) := by
  unfold State.rampExpiry
  extract_lets x k
  split
  · exact (State.setSlot_steady i _ s).trans (State.redriveDemand_steady i _)
  · exact .refl s

theorem State.resettleExpiry_steady (i : SlotId) (s : State) : s.Steady (s.resettleExpiry i) := by
  unfold State.resettleExpiry
  extract_lets x t
  have settled : s.Steady t := State.setSlot_steady i _ s
  split
  · split
    · exact settled.trans (State.enterWaitSupply_steady i _ t)
    · exact settled
  · exact .refl s

theorem State.spacingExpiry_steady (s : State) : s.Steady s.spacingExpiry := by
  unfold State.spacingExpiry
  split
  · refine State.Steady.trans ?_ (State.reconsider_steady _)
    exact .of_admission s rfl
  · exact .refl s

theorem State.covered_steady (now : Vector Bool 16) (s : State) :
    s.Steady { s with queue := { s.queue with covered := now } } := .of_queue s rfl

theorem State.handCoverage_steady (s : State) : s.Steady s.handCoverage := by
  unfold State.handCoverage
  extract_lets before now q t
  have covered : s.Steady t := State.covered_steady now s
  split
  · exact .refl s
  · exact (covered.trans (State.slotsPresence_steady before t)).trans (State.rotate_steady _)

/-! ### The end of a wash -/

theorem State.latchOutcome_steady (outcome : WashOutcome) (s : State) : s.Steady (s.latchOutcome outcome) := by
  cases outcome with
  | complete => exact .refl s
  | completeRipenLong => exact State.latchFlag_steady _ s
  | aborted => exact State.latchFlag_steady _ s

section
variable {c : Instr} (ends : c.canEndWash = true)
include ends

/-- Within the commands that can end a wash, a filter's record keeps its settings alone. -/
theorem FilterRec.keptBy_of_settings {r q : FilterRec} (h : q.settings = r.settings) : r.KeptBy c q where
  settings _ := h
  history k := absurd (ends.symm.trans k) nofun
  measures k := absurd (ends.symm.trans k) nofun

theorem State.filterWashEnd_keptBy (f : FilterNo) (outcome : WashOutcome) (cause : Cause) (seq : Count16)
    (s : State) : s.KeptBy c (s.filterWashEnd f outcome cause seq) := by
  have filed : ∀ was now (r : FilterRec), r.settings = (s.filter f).settings →
      s.KeptBy c ((s.countTransition was now).fileFilter f r) := fun was now r h => by
    refine ((State.countTransition_steady was now s).keptBy c).trans (State.fileFilter_keptBy f r _ ?_)
    rw [State.countTransition_filter]
    exact FilterRec.keptBy_of_settings ends h
  unfold State.filterWashEnd
  extract_lets r
  split
  · cases outcome <;> exact filed _ _ _ rfl
  · refine ((State.countTransition_steady _ _ s).keptBy c).trans (State.setFilter_keptBy f _ _ ?_)
    rw [State.countTransition_filter]
    exact FilterRec.keptBy_of_settings ends rfl

theorem State.endWash_keptBy (i : SlotId) (outcome : WashOutcome) (cause : Cause) (s : State) :
    s.KeptBy c (s.endWash i outcome cause) := by
  unfold State.endWash
  split
  · exact .refl c s
  · next f _ =>
    extract_lets seq rec_ s1 s2
    have written : s.KeptBy c s1 := State.journal_keptBy ends _ s
    have told : s.KeptBy c s2 := (written.trans ((State.latchOutcome_steady outcome s1).keptBy c)).trans
      (State.filterWashEnd_keptBy ends f outcome cause seq _)
    exact told.trans (((State.setSlot_steady i Slot.atReset s2).trans (State.slotFreed_steady _)).keptBy c)

theorem State.abort_keptBy (i : SlotId) (cause : Cause) (s : State) : s.KeptBy c (s.abort i cause) := by
  have stopped := ((State.withdraw_steady i s).trans (State.release_steady i _)).trans
    (State.setSlot_steady i (((s.withdraw i).release i).slot i).stopTimers _)
  exact (stopped.keptBy c).trans (State.endWash_keptBy ends i .aborted cause _)

theorem State.completeWash_keptBy (i : SlotId) (s : State) : s.KeptBy c (s.completeWash i) :=
  ((State.leaveRun_steady i s).keptBy c).trans (State.endWash_keptBy ends i _ _ _)

theorem State.endRepeat_keptBy (i : SlotId) (s : State) : s.KeptBy c (s.endRepeat i) := by
  have counted := State.setSlot_steady i { s.slot i with repeatsLeft := (s.slot i).repeatsLeft - 1 } s
  obtain ⟨-, h⟩ | ⟨-, -, h⟩ | ⟨-, -, h⟩ := State.endRepeat_cases i s
  · rw [h]
    exact (counted.trans (State.runAgain_steady i _)).keptBy c
  · rw [h]
    exact (counted.trans (State.nextStep_steady i _)).keptBy c
  · rw [h]
    exact (counted.keptBy c).trans (State.completeWash_keptBy ends i _)

/-! ### Timer expiries that can end a wash -/

theorem State.valveExpiry_keptBy (i : SlotId) (s : State) : s.KeptBy c (s.valveExpiry i) := by
  unfold State.valveExpiry
  split
  · exact State.abort_keptBy ends i _ s
  · exact .refl c s

theorem State.supplyWaitExpiry_keptBy (i : SlotId) (s : State) : s.KeptBy c (s.supplyWaitExpiry i) := by
  unfold State.supplyWaitExpiry
  split
  · exact State.abort_keptBy ends i _ s
  · exact .refl c s

theorem State.haltExpiry_keptBy (i : SlotId) (s : State) : s.KeptBy c (s.haltExpiry i) := by
  unfold State.haltExpiry
  split
  · exact State.abort_keptBy ends i _ s
  · exact .refl c s

theorem State.stepExpiry_keptBy (i : SlotId) (s : State) : s.KeptBy c (s.stepExpiry i) := by
  have repeats : ∀ x, s.KeptBy c ((s.setSlot i x).endRepeat i) := fun x =>
    ((State.setSlot_steady i x s).keptBy c).trans (State.endRepeat_keptBy ends i _)
  unfold State.stepExpiry
  extract_lets x y
  split
  · split
    · exact ((State.setSlot_steady i y s).keptBy c).trans (State.abort_keptBy ends i _ _)
    all_goals exact repeats _
  · exact .refl c s

theorem State.clearHoldExpiry_keptBy (i : SlotId) (s : State) : s.KeptBy c (s.clearHoldExpiry i) := by
  unfold State.clearHoldExpiry
  split
  · exact ((State.setSlot_steady i _ s).keptBy c).trans (State.endRepeat_keptBy ends i _)
  · exact .refl c s
  · exact .refl c s

theorem State.shortfallExpiry_keptBy (i : SlotId) (s : State) : s.KeptBy c (s.shortfallExpiry i) := by
  unfold State.shortfallExpiry
  split
  · extract_lets t x
    have left : s.Steady t := (State.leaveRun_steady i s).trans (State.latchFlag_steady _ _)
    split
    · exact (left.trans (State.setSlot_steady i _ t)).keptBy c
    · exact (left.keptBy c).trans (State.abort_keptBy ends i _ t)
  · exact .refl c s

end

/-! ### The minute event -/

theorem State.minute_keptBy (s : State) : s.KeptBy .minuteEvent s.minute := by
  have advanced : s.KeptBy .minuteEvent { s with seconds := 0, clock := s.clock + 1 } :=
    { State.KeptBy.refl .minuteEvent s with
      clock := fun _ k => absurd rfl k
      seconds := fun k => absurd rfl k }
  refine advanced.trans (.eitherOrder _ (fun t => ?_) fun t => ?_)
  · exact ((State.filtersMinute_steady t).trans (State.rotateFrom_steady _ _)).keptBy _
  · unfold State.minuteAtAdmission
    extract_lets u count
    have counted : t.Steady { t with admission := { u with stallCount := count } } := .of_admission t rfl
    exact (counted.trans (State.evalRotation_steady _)).keptBy _

/-! ### What follows from a measurement -/

section
variable {c : Instr} (measures : c.Measures)
include measures

theorem State.tankLowAtArbiter_keptBy (value : Bool) (s : State) :
    s.KeptBy c (s.tankLowAtArbiter value) := by
  unfold State.tankLowAtArbiter
  extract_lets a t
  have barred : s.KeptBy c t := State.arbiter_keptBy measures _ s
  split
  · split
    · exact barred.trans (State.abort_keptBy measures.canEndWash _ _ t)
    · exact barred
  · exact barred.trans (t.grantPass_steady.keptBy c)

theorem State.basinFullAtArbiter_keptBy (value : Bool) (s : State) :
    s.KeptBy c (s.basinFullAtArbiter value) := by
  unfold State.basinFullAtArbiter
  extract_lets a t
  have barred : s.KeptBy c t := State.arbiter_keptBy measures _ s
  split
  · exact barred
  · exact barred.trans (t.grantPass_steady.keptBy c)

theorem State.faultAtArbiter_keptBy (d : Channel) (value : Bool) (s : State) :
    s.KeptBy c (s.faultAtArbiter d value) :=
  (State.arbiter_keptBy measures _ s).trans ((State.faultAtArbiter_steady d value s).keptBy c)

theorem State.faultAtAdmission_keptBy (d : Channel) (value : Bool) (s : State) :
    s.KeptBy c (s.faultAtAdmission d value) := by
  refine State.KeptBy.trans ?_ ((State.reconsider_steady _).keptBy c)
  exact State.admission_keptBy measures s (by cases d <;> rfl)

theorem State.levelAtAdmission_keptBy (d : Channel) (level : Nat) (s : State) :
    s.KeptBy c (s.levelAtAdmission d level) := by
  refine State.KeptBy.trans ?_ ((State.reconsider_steady _).keptBy c)
  exact State.admission_keptBy measures s (by cases d <;> rfl)

theorem State.flowAtAdmission_keptBy (s : State) : s.KeptBy c s.flowAtAdmission := by
  unfold State.flowAtAdmission
  extract_lets v
  split
  · exact .refl c s
  · refine State.KeptBy.trans ?_ ((State.reconsider_steady _).keptBy c)
    exact State.admission_keptBy measures s rfl

omit measures in
theorem State.compareFlow_steady (average : Nat) (s : State) : s.Steady (s.compareFlow average) := by
  unfold State.compareFlow
  split
  · exact .refl s
  · extract_lets x
    split
    · exact State.setSlot_steady _ _ s
    · exact .refl s

theorem State.setChannel_keptBy (d : Channel) (r : ChannelRec) (s : State) :
    s.KeptBy c (s.setChannel d r) := State.monitor_keptBy measures _ s

theorem State.evalTankLow_keptBy (s : State) : s.KeptBy c s.evalTankLow := by
  unfold State.evalTankLow
  extract_lets was now m t
  split
  · exact .refl c s
  · have held : s.KeptBy c t := State.monitor_keptBy measures _ s
    exact (held.trans ((State.setLive_steady _ _ t).keptBy c)).trans
      (State.tankLowAtArbiter_keptBy measures _ _)

theorem State.evalBasinFull_keptBy (s : State) : s.KeptBy c s.evalBasinFull := by
  unfold State.evalBasinFull
  extract_lets was now m t
  split
  · exact .refl c s
  · have held : s.KeptBy c t := State.monitor_keptBy measures _ s
    exact (held.trans ((State.setLive_steady _ _ t).keptBy c)).trans
      (State.basinFullAtArbiter_keptBy measures _ _)

theorem State.completeWindow_keptBy (d : Channel) (sum : Nat) (s : State) :
    s.KeptBy c (s.completeWindow d sum) := by
  unfold State.completeWindow
  extract_lets length r t average u v
  have filed : s.KeptBy c t := State.setChannel_keptBy measures d r s
  split
  · have primed : t.KeptBy c u := State.monitor_keptBy measures _ t
    exact (filed.trans primed).trans
      (.eitherOrder _ (State.levelAtAdmission_keptBy measures .tank average) (State.evalTankLow_keptBy measures))
  · have primed : t.KeptBy c v := State.monitor_keptBy measures _ t
    exact ((filed.trans primed).trans (State.levelAtAdmission_keptBy measures .basin average _)).trans
      (State.evalBasinFull_keptBy measures _)
  · exact (filed.trans (State.flowAtAdmission_keptBy measures t)).trans
      ((State.compareFlow_steady average _).keptBy c)

/-! ### Samples -/

theorem State.intoWindow_keptBy (d : Channel) (reading : BitVec 12) (s : State) :
    s.KeptBy c (s.intoWindow d reading) := by
  unfold State.intoWindow State.addToWindow
  extract_lets r length
  split
  · exact State.setChannel_keptBy measures d _ s
  · exact State.completeWindow_keptBy measures d _ s

theorem State.creditFlow_keptBy (v : Nat) (s : State) : s.KeptBy c (s.creditFlow v) := by
  unfold State.creditFlow
  extract_lets m t
  refine State.KeptBy.trans (t := t) ?_ (State.monitor_keptBy measures _ t)
  unfold t
  split
  · exact (State.setSlot_steady _ _ s).keptBy c
  · exact State.monitor_keptBy measures _ s

theorem State.scaleAndCredit_keptBy (d : Channel) (reading : BitVec 12) (s : State) :
    s.KeptBy c (s.scaleAndCredit d reading) := by
  unfold State.scaleAndCredit
  extract_lets v r t
  have scaled : s.KeptBy c t := State.setChannel_keptBy measures d _ s
  split
  · exact scaled.trans (State.creditFlow_keptBy measures _ t)
  · exact scaled

theorem State.handFault_keptBy (d : Channel) (value : Bool) (s : State) :
    s.KeptBy c (s.handFault d value) := by
  have evaluated : s.KeptBy c s.evalSignalFault :=
    (State.monitor_keptBy measures _ s).trans ((State.handLive_steady _ _ _ _).keptBy c)
  exact (evaluated.trans (State.faultAtArbiter_keptBy measures d value _)).trans
    (State.faultAtAdmission_keptBy measures d value _)

theorem State.faultSample_keptBy (d : Channel) (s : State) : s.KeptBy c (s.faultSample d) := by
  unfold State.faultSample
  extract_lets r
  split
  · exact .refl c s
  · exact (State.setChannel_keptBy measures d _ s).trans (State.handFault_keptBy measures d true _)

theorem State.goodSample_keptBy (d : Channel) (reading : BitVec 12) (s : State) :
    s.KeptBy c (s.goodSample d reading) :=
  (State.scaleAndCredit_keptBy measures d reading s).trans (State.intoWindow_keptBy measures d reading _)

theorem State.endFault_keptBy (d : Channel) (reading : BitVec 12) (s : State) :
    s.KeptBy c (s.endFault d reading) := by
  unfold State.endFault
  extract_lets r t
  have left : s.KeptBy c t := State.setChannel_keptBy measures d _ s
  split
  · exact (left.trans (.eitherOrder t (State.handFault_keptBy measures .flow false)
      (State.scaleAndCredit_keptBy measures .flow reading))).trans
      (State.intoWindow_keptBy measures .flow reading _)
  all_goals exact left.trans (.eitherOrder t (State.handFault_keptBy measures _ false)
    (State.goodSample_keptBy measures _ reading))

theorem State.sample_keptBy (d : Channel) (reading : BitVec 12) (s : State) :
    s.KeptBy c (s.sample d reading) := by
  unfold State.sample
  extract_lets r t
  have read : s.KeptBy c t := State.setChannel_keptBy measures d _ s
  split
  · split
    · exact read.trans (State.endFault_keptBy measures d reading t)
    · exact read.trans (State.goodSample_keptBy measures d reading t)
  · exact read.trans (State.faultSample_keptBy measures d t)

theorem State.monitorCommit_keptBy (old : PlantPage) (s : State) : s.KeptBy c (s.monitorCommit old) := by
  refine (State.monitor_keptBy measures _ s).trans (.eitherOrder _ (fun t => ?_) fun t => ?_)
  · unfold State.commitTank
    split
    · exact .refl c t
    · exact (State.monitor_keptBy measures _ t).trans (State.evalTankLow_keptBy measures _)
  · unfold State.commitBasin
    split
    · exact .refl c t
    · exact State.evalBasinFull_keptBy measures t

end

/-! ### The completion of a commit -/

/-- A commit's completion may change every field of a filter record. -/
theorem FilterRec.keptBy_commitCompletion (r q : FilterRec) : r.KeptBy .commitCompletion q :=
  ⟨fun k => absurd rfl k, nofun, nofun⟩

theorem State.filterCommit_keptBy (f : FilterNo) (s : State) :
    s.KeptBy .commitCompletion (s.filterCommit f) := by
  unfold State.filterCommit
  extract_lets old new
  split
  · exact (State.setFilter_keptBy f new s (old.keptBy_commitCompletion new)).trans
      ((State.staleChanged_steady _ _ _ _).keptBy _)
  · exact State.fileFilter_keptBy f new s (old.keptBy_commitCompletion new)

theorem State.filtersCommit_keptBy (s : State) : s.KeptBy .commitCompletion s.filtersCommit := by
  have counted : s.Steady (s.setServiceCount s.serviceAfterCommit) := .of_parts rfl rfl rfl
  exact (counted.keptBy _).trans (.foldl _ _ _ fun t f => State.filterCommit_keptBy f t)

theorem State.tableCommit_keptBy (s : State) : s.KeptBy .commitCompletion s.tableCommit :=
  ((State.queue_keptBy _ s).trans (State.filtersCommit_keptBy _)).trans
    (((State.evalForced_steady _).trans (State.reconsider_steady _)).keptBy _)

theorem State.plantCompletes_keptBy (old : PlantPage) (s : State) :
    s.KeptBy .commitCompletion (s.plantCompletes old) :=
  (State.KeptBy.eitherOrder s State.tableCommit_keptBy (State.monitorCommit_keptBy (.inr rfl) old)).trans
    ((State.evalAlerts_steady _).keptBy _)

theorem State.programmeCompletes_keptBy (g : Fin 8) (s : State) :
    s.KeptBy .commitCompletion (s.programmeCompletes g) :=
  (State.queue_keptBy _ s).trans ((State.rotate_steady _).keptBy _)

/-- A completion writes stored pages, and keeps the latch and the staging page (R137, R141). -/
theorem State.stored_keptBy (s : State) {t : PageStore} (latch : t.latch = s.store.latch)
    (staging : t.staging = s.store.staging) : s.KeptBy .commitCompletion { s with store := t } :=
  { State.KeptBy.refl .commitCompletion s with
    edit := fun _ => ⟨latch, staging⟩
    pages := fun k => absurd rfl k
    inForce := fun k => absurd rfl k }

theorem State.evalPageInvalid_keptBy (s : State) : s.KeptBy .commitCompletion s.evalPageInvalid := by
  unfold State.evalPageInvalid
  extract_lets was now
  refine State.KeptBy.trans ?_ ((State.handLive_steady _ _ _ _).keptBy _)
  exact State.stored_keptBy s rfl rfl

theorem State.storeCompletes_keptBy (target : CommitTarget) (p : Port) (s : State) :
    s.KeptBy .commitCompletion (s.storeCompletes target p) := by
  obtain ⟨latch, staging⟩ := s.store.writeTarget_edit target
  unfold State.storeCompletes
  extract_lets m t
  have evaluated : s.KeptBy .commitCompletion t := by
    refine State.KeptBy.trans ?_ (State.evalPageInvalid_keptBy _)
    exact State.stored_keptBy s latch staging
  split
  · exact evaluated.trans (State.stored_keptBy t rfl rfl)
  · exact evaluated

theorem State.completeCommit_keptBy (s : State) : s.KeptBy .commitCompletion s.completeCommit := by
  unfold State.completeCommit
  split
  · exact .refl _ s
  · next target p _ =>
    extract_lets old t
    have stored := State.storeCompletes_keptBy target p s
    cases target with
    | programme g steps => exact stored.trans (State.programmeCompletes_keptBy g t)
    | plant q => exact stored.trans (State.plantCompletes_keptBy old t)

end Sys2Proof.Machine

/-! PROOFS. The frame of the commands: the requests that a port may send. -/

namespace Sys2Proof.Machine

/-! ### Taking a request -/

/-- What a body does lies within what the command of its kind may change. -/
def Body.Within (c : Port → Instr) (body : Body) : Prop :=
  ∀ (p : Port) (pl : List Byte) (s : State), s.KeptBy (c p) (body p pl s).1

theorem State.serve_keptBy {c : Port → Instr} {k : ReqKind} {body : Body} (within : body.Within c) {p : Port}
    (port : (c p).portOf = some p) (s : State) : s.KeptBy (c p) (s.serve p k body) := by
  unfold State.serve
  split
  · exact .refl _ s
  · next fr _ =>
    extract_lets t
    have handled : (s.popInbound p).KeptBy (c p) t.1 := by
      show State.KeptBy _ _ (State.handle _ _ _ _ _).1
      unfold State.handle
      split
      · exact .refl _ _
      · exact within p fr.payload _
    exact ((State.popInbound_keptBy port s).trans handled).trans
      ((State.answer_keptBy port _ _ _ _).trans (State.offerAll_keptBy _ _))

theorem State.serveUnknown_keptBy (p : Port) (s : State) :
    s.KeptBy (.unknownRequest p) (s.serveUnknown p) := by
  unfold State.serveUnknown
  split
  · exact .refl _ s
  · split_ifs
    · exact (State.popInbound_keptBy rfl s).trans
        ((State.answer_keptBy rfl _ _ _ _).trans (State.offerAll_keptBy _ _))
    · exact .refl _ s

/-! ### The Station Link's own requests -/

theorem State.acceptAttach_keptBy (p : Port) (role : Role) (bounds : Option Bounds) (limit : Nat) (s : State) :
    s.KeptBy (.attach p) (s.acceptAttach p role bounds limit) := by
  unfold State.acceptAttach
  extract_lets r t t1
  have attached : s.KeptBy (.attach p) t := State.setPort_keptBy rfl _ s
  have released : t.KeptBy (.attach p) t1 := by
    unfold t1
    split_ifs
    · obtain ⟨h, -⟩ | h := t.store.releaseLatchOf_cases p
      · rw [h]
        exact .refl _ t
      · rw [h]
        exact State.edit_keptBy rfl t rfl rfl rfl rfl
    · exact .refl _ t
  exact (attached.trans released).trans (t1.handCoverage_steady.keptBy _)

theorem attach_within : attachBody.Within .attach := by
  intro p pl s
  unfold attachBody
  extract_lets limit
  split_ifs
  · exact .refl _ s
  · exact .refl _ s
  · dsimp only
    exact State.acceptAttach_keptBy p .supervisor none limit s
  · split
    · exact .refl _ s
    · next b _ =>
      split_ifs
      · exact .refl _ s
      · dsimp only
        exact State.acceptAttach_keptBy p .gallery (some b) limit s

theorem State.unattach_keptBy {c : Instr} {p : Port} (port : c.portOf = some p) (edits : c.canEdit = true)
    (s : State) : s.KeptBy c (s.unattach p) := by
  unfold State.unattach
  extract_lets r t
  have left : s.KeptBy c t := State.setPort_keptBy port _ s
  refine (left.trans ?_).trans ((State.handCoverage_steady _).keptBy c)
  obtain ⟨owed, h⟩ := (t.store.releaseLatchOf p).dropDoneOf_eq p
  rw [h]
  obtain ⟨h, -⟩ | h := t.store.releaseLatchOf_cases p
  · rw [h]
    exact State.edit_keptBy edits t rfl rfl rfl rfl
  · rw [h]
    exact State.edit_keptBy edits t rfl rfl rfl rfl

theorem detach_within : detachBody.Within .detach := by
  intro p pl s
  dsimp only [detachBody]
  exact State.unattach_keptBy rfl rfl s

theorem State.silenceExpiry_keptBy (p : Port) (s : State) :
    s.KeptBy (.silenceTimerExpiry p) (s.silenceExpiry p) := by
  unfold State.silenceExpiry
  split
  · exact (State.unattach_keptBy rfl rfl s).trans ((State.latchFlag_steady _ _).keptBy _)
  · exact .refl _ s

theorem ping_within : pingBody.Within .ping := fun _ _ s => .refl _ s

/-! ### The Filter Table's requests -/

/-- A REPORT brings a filter new measurements, and neither settings nor history (R13). -/
theorem FilterRec.takeReport_keptBy (p : Port) (headloss turbidity : Option Nat) (r : FilterRec) :
    r.KeptBy (.report p) (r.takeReport headloss turbidity) where
  settings _ := by cases headloss <;> cases turbidity <;> rfl
  history _ := by cases headloss <;> cases turbidity <;> rfl
  measures _ k := absurd rfl (k p)

theorem State.reportWash_steady (f : FilterNo) (turbidity : Option Nat) (s : State) :
    s.Steady (s.reportWash f turbidity) := by
  unfold State.reportWash
  extract_lets r s1
  have fresh : s.Steady s1 :=
    (State.setFilter_steady f { r with reportAge := 0, stale := false } s ⟨rfl, rfl, rfl⟩).trans
      (State.staleChanged_steady _ _ _ _)
  cases turbidity with
  | none => exact fresh
  | some v => exact fresh.trans (State.signalSlot_steady f _ s1)

theorem report_within : reportBody.Within .report := by
  intro p pl s
  unfold reportBody
  split
  · exact .refl _ s
  · next f _ =>
    have standing : s.KeptBy (.report p)
        ((s.reportStanding f (reportHeadloss pl) (reportTurbidity pl)).rotateFrom s.queue) :=
      (State.fileFilter_keptBy f _ s (FilterRec.takeReport_keptBy p _ _ _)).trans
        ((State.rotateFrom_steady _ _).keptBy _)
    split_ifs
    · exact .refl _ s
    · split
      · exact .refl _ s
      · exact standing
      · exact standing
      · exact (State.reportWash_steady f _ s).keptBy _

theorem filterMode_within : filterModeBody.Within .filterMode := by
  intro p pl s
  unfold filterModeBody
  split
  · exact .refl _ s
  · exact .refl _ s
  · next f mode _ _ =>
    have changed := (State.modeChange_steady f mode (modeMinutes pl) s).trans
      (State.rotateFrom_steady s.queue _)
    split_ifs
    · exact .refl _ s
    · split
      · exact .refl _ s
      · exact .refl _ s
      · exact changed.keptBy _
      · exact changed.keptBy _

/-! ### The Wash Queue's requests -/

theorem WashQueue.takeRequested_floor (minute : Count32) (f : FilterNo) (p : Port) (q : WashQueue) :
    (q.takeRequested minute f p).floor = q.floor := by
  unfold WashQueue.takeRequested
  split
  · rfl
  · split <;> rfl

theorem WashQueue.takeForce_floor (minute : Count32) (f : FilterNo) (p : Port) (q : WashQueue) :
    (q.takeForce minute f p).floor = q.floor := by
  unfold WashQueue.takeForce
  split
  · rfl
  · split <;> rfl

theorem WashQueue.takeBack_floor (f : FilterNo) (e : Entry) (q : WashQueue) :
    (q.takeBack f e).floor = q.floor := by
  unfold WashQueue.takeBack
  split <;> rfl

theorem State.takeWashRequest_steady (force : Bool) (f : FilterNo) (p : Port) (s : State) :
    s.Steady (s.takeWashRequest force f p) := by
  unfold State.takeWashRequest
  extract_lets q
  have taken : q.floor = s.queue.floor := by
    cases force
    · exact WashQueue.takeRequested_floor _ _ _ _
    · exact WashQueue.takeForce_floor _ _ _ _
  exact ((State.Steady.of_queue s taken).trans (State.clearWashFailed_steady f _)).trans
    (State.rotateFrom_steady _ _)

theorem washRequest_within : washRequestBody.Within .washRequest := by
  intro p pl s
  unfold washRequestBody
  split
  · exact .refl _ s
  · split_ifs
    · exact .refl _ s
    · exact .refl _ s
    · split
      · exact .refl _ s
      · exact .refl _ s
      · exact (State.takeWashRequest_steady _ _ p s).keptBy _
      · exact (State.takeWashRequest_steady _ _ p s).keptBy _

theorem State.withdrawEntry_steady (f : FilterNo) (e : Entry) (s : State) : s.Steady (s.withdrawEntry f e) := by
  have back := (State.Steady.of_queue s (s.queue.takeBack_floor f e)).trans (State.rotateFrom_steady s.queue _)
  unfold State.withdrawEntry
  split
  · have dropped : (s.queue.drop f).floor = s.queue.floor := rfl
    exact ((State.Steady.of_queue s dropped).trans (State.defer_steady f _)).trans (State.rotateFrom_steady _ _)
  · exact back
  · exact back

theorem washWithdraw_within : washWithdrawBody.Within .washWithdraw := by
  intro p pl s
  unfold washWithdrawBody
  split
  · exact .refl _ s
  · split_ifs
    · exact .refl _ s
    · split
      · exact .refl _ s
      · split_ifs
        · exact .refl _ s
        · exact (State.withdrawEntry_steady _ _ s).keptBy _

/-! ### The slots' requests -/

theorem atSlot_within {c : Port → Instr} {act : SlotId → List Byte → State → State × Reply}
    (h : ∀ p i pl (s : State), s.KeptBy (c p) (act i pl s).1) : Body.Within c (atSlot act) := by
  intro p pl s
  unfold atSlot
  split
  · exact .refl _ s
  · split_ifs
    · exact .refl _ s
    · exact .refl _ s
    · split
      · exact .refl _ s
      · exact h p _ pl s

theorem washAbort_within : washAbortBody.Within .washAbort :=
  atSlot_within fun _ i _ s => State.abort_keptBy rfl i .requested s

theorem stepFault_within : stepFaultBody.Within .stepFault :=
  atSlot_within fun _ i _ s => State.abort_keptBy rfl i .valveFault s

theorem stepReady_within : stepReadyBody.Within .stepReady := by
  refine atSlot_within fun p i pl s => ?_
  split_ifs
  · exact .refl _ s
  · exact .refl _ s
  · exact .refl _ s
  · exact (State.stepReady_steady i s).keptBy _

theorem stepDone_within : stepDoneBody.Within .stepDone := by
  refine atSlot_within fun p i pl s => ?_
  split_ifs
  · exact .refl _ s
  · exact .refl _ s
  · exact State.endRepeat_keptBy rfl i s

/-! ### The reading requests -/

theorem readFilter_within : readFilterBody.Within .readFilter := by
  intro p pl s
  unfold readFilterBody
  split <;> exact .refl _ s

theorem readQueue_within : readQueueBody.Within .readQueue := by
  intro p pl s
  unfold readQueueBody
  split <;> exact .refl _ s

theorem readSlots_within : readSlotsBody.Within .readSlots := fun _ _ s => .refl _ s

theorem readMonitor_within : readMonitorBody.Within .readMonitor := fun _ _ s => .refl _ s

theorem readJournal_within : readJournalBody.Within .readJournal := by
  intro p pl s
  unfold readJournalBody
  split <;> exact .refl _ s

theorem readPage_within : readPageBody.Within .readPage := by
  intro p pl s
  unfold readPageBody
  extract_lets source part
  split
  · exact .refl _ s
  · split_ifs
    · exact .refl _ s
    · exact .refl _ s
    · exact .refl _ s
    · exact .refl _ s
    · split
      · exact .refl _ s
      · split_ifs
        · exact .refl _ s
        · exact .refl _ s

theorem readStatus_within : readStatusBody.Within .readStatus := fun _ _ s => .refl _ s

/-! ### The supervisor's requests -/

theorem State.setClass_keptBy (p : Port) (x : RawClass) (s : State) : s.KeptBy (.setClass p) (s.setClass x) := by
  unfold State.setClass State.takeClass
  split_ifs
  · exact .refl _ s
  · have set : s.KeptBy (.setClass p) { s with filters := { s.filters with rawClass := x } } :=
      { State.KeptBy.refl (.setClass p) s with rawClass := fun k => absurd rfl (k p) }
    have restood := State.Steady.foldl _ allFilters { s with filters := { s.filters with rawClass := x } }
      fun t f => State.restand_steady f t
    exact set.trans ((restood.trans (State.rotateFrom_steady _ _)).keptBy _)

theorem setClass_within : setClassBody.Within .setClass := by
  intro p pl s
  unfold setClassBody
  split
  · exact .refl _ s
  · exact State.setClass_keptBy p _ s

theorem State.setPause_keptBy (p : Port) (paused : Bool) (s : State) :
    s.KeptBy (.setPause p) (s.setPause paused) := by
  unfold State.setPause
  split
  · exact .refl _ s
  · have set : s.KeptBy (.setPause p) { s with admission := { s.admission with paused := paused } } :=
      { State.KeptBy.refl (.setPause p) s with paused := fun k => absurd rfl (k p) }
    exact set.trans ((State.reconsider_steady _).keptBy _)

theorem setPause_within : setPauseBody.Within .setPause := by
  intro p pl s
  unfold setPauseBody
  split_ifs
  · exact .refl _ s
  · exact State.setPause_keptBy p _ s

theorem clockSet_within : clockSetBody.Within .clockSet := by
  intro p pl s
  have set : s.KeptBy (.clockSet p) { s with clock := BitVec.ofNat 32 (word32At pl 0) } :=
    { State.KeptBy.refl (.clockSet p) s with clock := fun k => absurd rfl (k p) }
  exact set.trans ((State.evalForced_steady _).keptBy _)

theorem clearStatus_within : clearStatusBody.Within .clearStatus := fun p _ s =>
  { State.KeptBy.refl (.clearStatus p) s with latched := fun k => absurd rfl (k p) }

theorem peakReset_within : peakResetBody.Within .peakReset := fun p _ s =>
  { State.KeptBy.refl (.peakReset p) s with channels := fun _ _ k => absurd rfl (k p) }

/-! ### The Page Store's requests -/

theorem editOpen_within : editOpenBody.Within .editOpen := by
  intro p pl s
  unfold editOpenBody
  split
  · exact .refl _ s
  · split_ifs
    · exact .refl _ s
    · exact .refl _ s
    · exact State.edit_keptBy rfl s rfl rfl rfl rfl

theorem editWrite_within : editWriteBody.Within .editWrite := by
  intro p pl s
  unfold editWriteBody
  split_ifs
  · exact .refl _ s
  · split
    · exact .refl _ s
    · split
      · exact .refl _ s
      · exact State.edit_keptBy rfl s rfl rfl rfl rfl

theorem editClose_within : editCloseBody.Within .editClose := by
  intro p pl s
  unfold editCloseBody
  split_ifs
  · exact .refl _ s
  · exact State.edit_keptBy rfl s rfl rfl rfl rfl

/-- A commit's start sets a marker and takes the latch: the plant page in force, the flag of an INVALID page and
the service floor stand (R140). -/
theorem State.startCommit_keptBy (p : Port) (x : Staged) (s : State) :
    s.KeptBy (.commit p) (s.startCommit p x) := by
  refine State.KeptBy.trans ?_ ((State.rotate_steady _).keptBy _)
  have inForce : ((s.store.mark x.page).inForce, (s.store.mark x.page).pageInvalid,
      (s.queue.commitStarts x.page).floor) = (s.plant, s.store.pageInvalid, s.queue.floor) := by
    cases x.page <;> rfl
  simp only [Prod.mk.injEq] at inForce
  exact { State.KeptBy.refl (.commit p) s with
    edit := nofun
    pages := fun _ k => absurd rfl (k p)
    inForce := fun _ => inForce }

theorem commit_within : commitBody.Within .commit := by
  intro p pl s
  unfold commitBody
  split_ifs
  · exact .refl _ s
  · exact .refl _ s
  · split
    · exact .refl _ s
    · split_ifs
      · exact .refl _ s
      · exact State.startCommit_keptBy p _ s
      · exact .refl _ s

end Sys2Proof.Machine

/-! PROOFS. The frame of the commands: every command, and O60. -/

namespace Sys2Proof.Machine

/-! ### Commands -/

/-- Every command has a next state. -/
theorem exec_next (c : Instr) (s : State) : ∃ t, exec c s = .next t := by
  cases c <;> exact ⟨_, rfl⟩

section
variable {c : Instr} {s t : State}

/-- A command acts outside a reset, and changes nothing during one (log 1). -/
theorem State.KeptBy.of_running {f : State → State} (h : s.whenRunning f = .next t) (k : s.KeptBy c (f s)) :
    s.KeptBy c t := by
  obtain rfl := Host.Outcome.next.inj h
  split
  · exact .refl c s
  · exact k

theorem State.KeptBy.offering (h : s.KeptBy c t) : s.KeptBy c t.offerAll := h.trans (t.offerAll_keptBy c)

/-- A command that offers owed notices after its event (R158). -/
theorem State.KeptBy.of_offering (f : State → State) (h : s.whenRunning (fun u => (f u).offerAll) = .next t)
    (k : s.KeptBy c (f s)) : s.KeptBy c t := .of_running h k.offering

/-- A request lies within its command where what its body does lies within it. -/
theorem State.KeptBy.of_request {k : ReqKind} {body : Body} {i : Port → Instr} {p : Port}
    (h : s.whenRunning (State.serve p k body) = .next t) (within : body.Within i)
    (port : (i p).portOf = some p) : s.KeptBy (i p) t :=
  .of_running h (State.serve_keptBy within port s)

theorem State.enterNotice_keptBy (n : Notice) (c : Instr) (s : State) : s.KeptBy c (s.enterNotice n) :=
  (NoticesEntered.entered s n .nothing).keptBy c

theorem State.enterSlotNotice_keptBy (kind : SlotNotice) (i : SlotId) (c : Instr) (s : State) :
    s.KeptBy c (s.enterSlotNotice kind i) := by
  unfold State.enterSlotNotice
  split
  · exact State.enterNotice_keptBy _ c s
  · exact .refl c s

end

/-- Every command but the resets lies within the frame of the commands. -/
theorem exec_keptBy {c : Instr} {s t : State} (h : exec c s = .next t) (running : c.isReset = false) :
    s.KeptBy c t := by
  cases c with
  | powerOnReset => cases running
  | resetLine => cases running
  | startUp baud1 baud0 => cases running
  | frameArrival p bytes => exact .of_running h (State.setPort_keptBy rfl _ s)
  | discardedFrame p bytes gap => exact .of_running h (State.setPort_keptBy rfl _ s)
  | frameDeparture p => exact .of_running h (State.depart_keptBy rfl s)
  | silenceTimerExpiry p => exact .of_offering (State.silenceExpiry p) h (State.silenceExpiry_keptBy p s)
  | unknownRequest p => exact .of_running h (State.serveUnknown_keptBy p s)
  | attach p => exact .of_request h attach_within rfl
  | detach p => exact .of_request h detach_within rfl
  | ping p => exact .of_request h ping_within rfl
  | report p => exact .of_request h report_within rfl
  | filterMode p => exact .of_request h filterMode_within rfl
  | washRequest p => exact .of_request h washRequest_within rfl
  | washWithdraw p => exact .of_request h washWithdraw_within rfl
  | washAbort p => exact .of_request h washAbort_within rfl
  | stepReady p => exact .of_request h stepReady_within rfl
  | stepDone p => exact .of_request h stepDone_within rfl
  | stepFault p => exact .of_request h stepFault_within rfl
  | readFilter p => exact .of_request h readFilter_within rfl
  | readQueue p => exact .of_request h readQueue_within rfl
  | readSlots p => exact .of_request h readSlots_within rfl
  | readMonitor p => exact .of_request h readMonitor_within rfl
  | readJournal p => exact .of_request h readJournal_within rfl
  | readPage p => exact .of_request h readPage_within rfl
  | readStatus p => exact .of_request h readStatus_within rfl
  | setClass p => exact .of_request h setClass_within rfl
  | setPause p => exact .of_request h setPause_within rfl
  | clockSet p => exact .of_request h clockSet_within rfl
  | clearStatus p => exact .of_request h clearStatus_within rfl
  | peakReset p => exact .of_request h peakReset_within rfl
  | editOpen p => exact .of_request h editOpen_within rfl
  | editWrite p => exact .of_request h editWrite_within rfl
  | editClose p => exact .of_request h editClose_within rfl
  | commit p => exact .of_request h commit_within rfl
  | commitCompletion => exact .of_offering State.completeCommit h s.completeCommit_keptBy
  | stepSet i => exact .of_running h (State.enterSlotNotice_keptBy _ i _ s)
  | stepRun i => exact .of_running h (State.enterSlotNotice_keptBy _ i _ s)
  | washEnd f => exact .of_running h (State.enterNotice_keptBy _ _ s)
  | commitDone => exact .of_running h (State.enterNotice_keptBy _ _ s)
  | minuteEvent => exact .of_offering State.minute h s.minute_keptBy
  | channelSample d r => exact .of_offering (State.sample d r) h (State.sample_keptBy (.inl rfl) d r s)
  | windowCompletion d r =>
    refine .of_running h ?_
    split
    · exact (State.sample_keptBy (.inl rfl) d r s).offering
    · exact .refl _ s
  | admission =>
    refine .of_running h ?_
    split
    · exact (((State.examine_steady 3 s).trans (State.evalRotation_steady _)).keptBy _).offering
    · exact .refl _ s
  | spacingTimerExpiry => exact .of_offering State.spacingExpiry h (s.spacingExpiry_steady.keptBy _)
  | valveTimerExpiry i => exact .of_offering (State.valveExpiry i) h (State.valveExpiry_keptBy rfl i s)
  | supplyWaitExpiry i => exact .of_offering (State.supplyWaitExpiry i) h (State.supplyWaitExpiry_keptBy rfl i s)
  | stepTimerExpiry i => exact .of_offering (State.stepExpiry i) h (State.stepExpiry_keptBy rfl i s)
  | clearHoldExpiry i => exact .of_offering (State.clearHoldExpiry i) h (State.clearHoldExpiry_keptBy rfl i s)
  | rampTimerExpiry i => exact .of_offering (State.rampExpiry i) h ((State.rampExpiry_steady i s).keptBy _)
  | shortfallTimerExpiry i =>
    exact .of_offering (State.shortfallExpiry i) h (State.shortfallExpiry_keptBy rfl i s)
  | resettleTimerExpiry i =>
    exact .of_offering (State.resettleExpiry i) h ((State.resettleExpiry_steady i s).keptBy _)
  | haltTimerExpiry i => exact .of_offering (State.haltExpiry i) h (State.haltExpiry_keptBy rfl i s)
  | grant i =>
    have h : execGrant i s = .next t := h
    refine .of_running h ?_
    split
    · next r _ =>
      split
      · exact ((State.grantRequest_steady r s).keptBy _).offering
      · exact .refl _ s
    · exact .refl _ s

/-- No command changes the commands still to come. -/
theorem exec_pending {c : Instr} {s t : State} (h : exec c s = .next t) : t.pending = s.pending := by
  cases reset : c.isReset with
  | false => exact (congrArg (·.1) (exec_keptBy h reset).held :)
  | true =>
    cases c with
    | powerOnReset =>
      obtain rfl := Host.Outcome.next.inj h
      rfl
    | resetLine =>
      obtain rfl := Host.Outcome.next.inj h
      rfl
    | startUp baud1 baud0 =>
      obtain rfl := Host.Outcome.next.inj h
      split <;> rfl
    | _ => cases reset

/-! ### The obligation -/

/-- Settles O60: each command's move is put together from moves that keep what the frame names. -/
theorem commandsLeaveTheRestAlone : Obligations.CommandsLeaveTheRestAlone := by
  intro c s
  obtain ⟨t, h⟩ := exec_next c s
  refine ⟨t, h, exec_pending h, fun running => ?_⟩
  have k := exec_keptBy h running
  have held := k.held
  have conditions := k.conditions
  have settings := fun f => (k.filters f).settings
  have history := fun f => (k.filters f).history
  have measures := fun f => (k.filters f).measures
  simp only [Prod.mk.injEq] at held
  obtain ⟨-, inReset, lineRate⟩ := held
  simp only [State.conditions, Arbiter.bars, Prod.mk.injEq] at conditions
  simp only [FilterRec.settings, FilterRec.history, FilterRec.measures, Prod.mk.injEq] at settings history measures
  refine ⟨inReset, lineRate, k.clock, k.seconds, k.rawClass, k.paused, k.edit, fun commit => ?_, fun wash => ?_,
    k.channels, fun sample commit => ?_, fun p port => ?_, k.latched⟩
  · obtain ⟨plant, invalid, floor⟩ := k.inForce commit
    exact ⟨k.pages commit, plant, invalid, floor, fun f => settings f commit⟩
  · refine ⟨k.journal wash, fun f => ?_⟩
    obtain ⟨washes, aborts, outcome, cause, sequence⟩ := history f wash
    exact ⟨washes, aborts, outcome, cause, sequence, measures f wash⟩
  · obtain ⟨tankLow, basinFull, fault, refill, primed, ⟨tankBar, basinBar, tankFault, flowFault⟩, levels⟩ :=
      conditions sample commit
    exact ⟨tankLow, basinFull, fault, refill, primed, tankBar, basinBar, tankFault, flowFault, levels⟩
  · obtain ⟨attachment, line, outbound⟩ := k.ports p port
    simp only [Prod.mk.injEq] at attachment line
    obtain ⟨role, bounds, limit, timer⟩ := attachment
    obtain ⟨receiver, inbound, errors, drops⟩ := line
    exact ⟨role, bounds, limit, timer, receiver, inbound, outbound, errors, drops⟩

end Sys2Proof.Machine
